-- ==== Sys2Proof/Word.lean ====
section
/-! DEFINITION. The word and byte types of the flicker core (`00_scope.md` R7, R11): a register is 32 bits, a store byte and a duty value 8. -/

namespace Sys2Proof

/-- A 32-bit register or command word; bit 0 is the least significant (R11). -/
abbrev Word := BitVec 32

/-- A byte of the seed store, or a duty value. -/
abbrev Byte := BitVec 8

end Sys2Proof
end

