-- ==== Sys2Proof/Config.lean ====
section
/-! DEFINITION. The configuration parameters of `00_scope.md` R7 to R10 and `42_filter.md` R141, R145, and the free values of R34.
A configuration is fixed for the life of an instance (`10_state.md` R21). Whether one is valid is `Machine/Validity.lean`. -/

namespace Sys2Proof

/-- The boot seed adjustment policy `SEED_ADVANCE` (R8, D2). -/
inductive SeedAdvance where
  /-- Add 1, skipping 0 at the wrap. -/
  | always
  /-- Change only a seed of 0. -/
  | ifZero
  deriving DecidableEq, Repr

/-- The filter coefficient record `FILTER` (`42_filter.md` R141). A coefficient is meant to be an `s16` and a shift to lie in 0 .. 31; R9 checks both. -/
structure FilterCfg where
  /-- `C_IN`, `S_IN`: the scaled input contribution. -/
  cIn : Int
  sIn : Nat
  /-- `C_1`, `S_1`: feedback of the output into the first delay term. -/
  c1 : Int
  s1 : Nat
  /-- `S_Z2`: how many more fractional bits the second delay term carries than the first. -/
  sZ2 : Nat
  /-- `C_2`, `S_2`: feedback of the output into the second delay term. -/
  c2 : Int
  s2 : Nat
  /-- `C_B1`, `S_B1`: feed-forward of the input into the first delay term. -/
  cB1 : Int
  sB1 : Nat
  /-- `C_B2`, `S_B2`: feed-forward of the input into the second delay term. -/
  cB2 : Int
  sB2 : Nat
  /-- `S_OUT`: the output shift. -/
  sOut : Nat
  deriving DecidableEq, Repr

/-- `BW60`, the default filter set (`42_filter.md` R145). -/
def FilterCfg.bw60 : FilterCfg where
  cIn := 4400
  sIn := 0
  c1 := 23249
  s1 := 14
  sZ2 := 4
  c2 := -9065
  s2 := 10
  cB1 := 0
  sB1 := 0
  cB2 := 0
  sB2 := 0
  sOut := 8

/-- A positive rate in Hz as a ratio: R8 lets `OVF_RATE` be any positive number. -/
structure Rate where
  num : Nat
  den : Nat
  deriving DecidableEq, Repr

/-- The configuration of one instance (R8), and the size of the platform's seed store (`20_memory.md` R53). -/
structure Config where
  /-- `SEED_ADVANCE`. -/
  seedAdvance : SeedAdvance
  /-- `SEED_ADDR`, the byte address of the seed word in the store. -/
  seedAddr : Nat
  /-- How many bytes the platform's store has: addresses `0 .. storeSize - 1`. -/
  storeSize : Nat
  /-- `FILTER`. -/
  filter : FilterCfg
  /-- `UPDATE_RATE`, Hz. -/
  updateRate : Nat
  /-- `OVF_RATE`, Hz. -/
  ovfRate : Rate
  /-- `RELOAD`, the tick down-counter's reload value. -/
  reload : Nat
  /-- `WIND`; the mapper's baseline is `255 - WIND`. -/
  wind : Nat
  /-- `MAP_DIV`, the mapper's divisor. -/
  mapDiv : Nat
  /-- `DUTY_RESET`, what the duty latch holds before the first write. -/
  dutyReset : Byte
  /-- `WIN_BASE`, the register window's base address. -/
  winBase : Nat
  deriving DecidableEq, Repr

/-- The default of `RELOAD`: `floor(OVF_RATE / UPDATE_RATE)` (R8, D11). -/
def Config.defaultReload (ovf : Rate) (updateRate : Nat) : Nat := ovf.num / (ovf.den * updateRate)

/-- FREE VALUE: an unspecified register value after a reset (`10_state.md` R34, `93_implementation_defined.md` I1). The n-th draw is
`freeWord n`; nothing constrains it. DESIGN CHOICE of the form, safe: notes/assumptions/4.md. -/
opaque Config.freeWord : Nat → Word

/-- FREE VALUE: `DUTY_RESET` of the reset instance, "unspecified, any 8-bit value" (R34, I5). DESIGN CHOICE of the form, safe:
notes/assumptions/3.md. -/
opaque Config.dutyOpen : Byte

/-- The instance that `State.reset` is of: every default of R8, and for the parameters that R8 leaves OPEN the values of
notes/assumptions/2.md (DESIGN CHOICE, unsafe: a claim about this instance alone says nothing of another). -/
def Config.default : Config where
  seedAdvance := .always
  seedAddr := 0
  storeSize := 4
  filter := FilterCfg.bw60
  updateRate := 60
  ovfRate := ⟨15625, 16⟩
  reload := Config.defaultReload ⟨15625, 16⟩ 60
  wind := 84
  mapDiv := 64
  dutyReset := Config.dutyOpen
  winBase := 0

end Sys2Proof
end

