-- ==== Sys2Proof/Syntax.lean ====
section
/-! DEFINITION. The command words of the test command port (`30_encoding.md` R84), one constructor per row of the opcode table, and
the names that decoding needs: the two modes (`10_state.md` R30) and the causes of an illegal command (`60_exceptions.md` R220). -/

namespace Sys2Proof

/-- A command (R84). `draw` carries the 4-bit field N, `filter` the 8-bit field IMM8. -/
inductive Instr where
  /-- NOP (R192). -/
  | nop
  /-- STEP (R193). -/
  | step
  /-- DRAW n (R194). -/
  | draw (n : BitVec 4)
  /-- NORMAL (R195). -/
  | normal
  /-- FILTER x (R196). -/
  | filter (x : BitVec 8)
  /-- MAP (R197). -/
  | map
  /-- UPDATE (R198). -/
  | update
  /-- OVF (R199). -/
  | ovf
  /-- TAKE (R200). -/
  | take
  deriving DecidableEq, Repr

/-- The operating mode `S.MODE` (R30). -/
inductive Mode where
  | run
  | test
  deriving DecidableEq, Repr

/-- Why a CMD write is illegal (R220). Code 0, NONE, is the absence of a cause. -/
inductive Cause where
  /-- 1 CMD_IN_RUN: any CMD write in RUN mode. -/
  | cmdInRun
  /-- 2 RSV_NONZERO: `w[31:16] != 0`. -/
  | rsvNonzero
  /-- 3 OP_RESERVED: `w[15:12]` in 0x9 .. 0xF. -/
  | opReserved
  /-- 4 DRAW_RANGE: `OP = 0x2` and `N > 8`. -/
  | drawRange
  /-- 5 FIELD_NONZERO: `N` or `IMM8` not 0 where it must be. -/
  | fieldNonzero
  deriving DecidableEq, Repr

end Sys2Proof
end

