-- ==== Sys2Proof/Machine/State.lean ====
section
/-! DEFINITION. The state of the machine: the registers of `10_state.md` R22, the seed store of `20_memory.md` R50, the instance's
configuration, and the model's own record of what HOST does and sees. Plain data throughout. -/

namespace Sys2Proof.Machine

/-- The sequencer's control state `S.PHASE` (`10_state.md` R28). -/
inductive Phase where
  /-- After reset, before the boot step. -/
  | boot
  /-- Waiting for a tick. -/
  | idle
  /-- Running the pipeline. -/
  | updating
  deriving DecidableEq, Repr

/-- The widths a HOST bus access can have (`20_memory.md` R55, R56). -/
inductive Width where
  | b1
  | b2
  | b4
  | b8
  deriving DecidableEq, Repr

/-- One thing that HOST or its timer does, or one turn of SEQ (`10_state.md` R20, `60_exceptions.md` R224). The order of the events
is the order of the run. -/
inductive Event where
  /-- SEQ's turn: it takes its enabled step, if it has one. -/
  | seq
  /-- The external timer delivers one overflow event (R170, R223). -/
  | ovf
  /-- A HOST bus read of the given width at an address (R55). -/
  | read (width : Width) (addr : Nat)
  /-- A HOST bus write; `value` is the data of a 4-byte write, and no other width delivers any (R56). -/
  | write (width : Width) (addr : Nat) (value : Word)
  /-- HOST reads one byte of its seed store. -/
  | storeRead (addr : Nat)
  /-- HOST writes one byte of its seed store. -/
  | storeWrite (addr : Nat) (value : Byte)
  /-- HOST asserts reset with the `TEST` strap as given (R250). -/
  | reset (test : Bool)
  /-- Power is lost and comes back: all block state is lost, and the power-up is a reset (R232, R250). Where it cuts the boot write,
  bit `i` of `torn` says whether byte `i` of the seed word was already written (R54, I4). -/
  | powerCycle (test : Bool) (torn : BitVec 4)
  deriving DecidableEq, Repr

/-- What HOST got for its latest access. -/
inductive Resp where
  /-- No access yet. -/
  | none
  /-- The value of a legal window read (R201). -/
  | data (value : Word)
  /-- A legal window write was taken (R202). -/
  | written
  /-- The bus-error response to a window access that R55 does not allow (R221). -/
  | busError (addr : Nat)
  /-- The access touches no byte of the window: it belongs to the platform, and the block gives no response (R56). -/
  | notWindow (addr : Nat)
  /-- A byte of the seed store. -/
  | storeByte (value : Byte)
  /-- A byte of the seed store was written. -/
  | storeWritten
  deriving DecidableEq, Repr

/-- Why the machine can stop. -/
inductive Fault where
  /-- HOST accessed a byte that its seed store does not have. Raised by `hostStoreRead` and `hostStoreWrite`; the block itself never
  does this in a valid configuration (`20_memory.md` R53). Safe: the run ends. -/
  | noStoreByte (addr : Nat)
  deriving DecidableEq, Repr

/-- Why the machine can refuse to step. -/
inductive Refusal where
  /-- The instruction has no meaning in this model. Raised by no arm of `exec`. Safe. -/
  | notModelled (mnemonic : String)
  /-- The configuration is invalid: "there is no machine for it, and no step" (`00_scope.md` R9, I11). Raised by `step`. Safe. -/
  | invalidConfig
  deriving DecidableEq, Repr

/-- The state. The first group is the block's registers (R22), then the instance's constants, HOST's seed store, and the model's
own fields. -/
structure State where
  /-- `S.LFSR`. -/
  lfsr : Word
  /-- `S.Z1`, two's complement. -/
  z1 : Word
  /-- `S.Z2`, two's complement. -/
  z2 : Word
  /-- `S.TICK`. -/
  tick : Bool
  /-- `S.CNT`. -/
  cnt : BitVec 16
  /-- `S.PHASE`. -/
  phase : Phase
  /-- `S.DUTY`, the duty port's latch. -/
  duty : Byte
  /-- `S.MODE`. -/
  mode : Mode
  /-- `S.ERR`. -/
  err : Bool
  /-- `S.CAUSE`. -/
  cause : BitVec 4
  /-- `S.ARG`. -/
  arg : Word
  /-- `S.RES`. -/
  res : Word
  /-- `S.SEEDW`. -/
  seedw : Word
  /-- The instance's configuration, which no step writes (R21). DESIGN CHOICE, safe: notes/assumptions/1.md. -/
  cfg : Config
  /-- The persistent seed store: the bytes that differ from `blankByte`, addresses rising (`20_memory.md` R51). -/
  store : List Host.Cell
  /-- MODEL'S OWN: what happens next, oldest first. DESIGN CHOICE, safe: notes/assumptions/7.md. -/
  agenda : List Event
  /-- MODEL'S OWN: the response to HOST's latest access. DESIGN CHOICE, safe: notes/assumptions/10.md. -/
  resp : Resp
  /-- MODEL'S OWN: every value written to the duty port, newest first. DESIGN CHOICE, safe: notes/assumptions/16.md. -/
  port : List Byte
  /-- MODEL'S OWN: how many free values have been drawn. DESIGN CHOICE, safe: notes/assumptions/4.md. -/
  draws : Nat
  deriving DecidableEq, Repr

/-- The machine right after reset (`10_state.md` R34), at the start of phase `BOOT`, for the instance `Config.default`, with the
`TEST` strap read as 0 (DESIGN CHOICE, unsafe: notes/assumptions/5.md), a blank store and an empty agenda. -/
def State.reset : State where
  lfsr := Config.freeWord 0
  z1 := 0
  z2 := 0
  tick := false
  cnt := BitVec.ofNat 16 Config.default.reload
  phase := .boot
  duty := Config.default.dutyReset
  mode := .run
  err := false
  cause := 0
  arg := 0
  res := 0
  seedw := Config.freeWord 1
  cfg := Config.default
  store := []
  agenda := []
  resp := .none
  port := []
  draws := 2

end Sys2Proof.Machine
end

