-- ==== Sys2Proof/Machine/Validity.lean ====
section
/-! DEFINITION. Which configurations are valid (`00_scope.md` R9, the ranges of R8, and `20_memory.md` R53). -/

namespace Sys2Proof.Machine

/-- A coefficient is a signed 16-bit integer (R9). -/
def coeffValid (c : Int) : Bool := decide (-32768 ≤ c ∧ c ≤ 32767)

/-- A shift lies in 0 .. 31 (R9). -/
def shiftValid (s : Nat) : Bool := decide (s ≤ 31)

/-- R9 for the `FILTER` record (`42_filter.md` R141). -/
def filterValid (F : FilterCfg) : Bool :=
  coeffValid F.cIn && coeffValid F.c1 && coeffValid F.c2 && coeffValid F.cB1 && coeffValid F.cB2 &&
  shiftValid F.sIn && shiftValid F.s1 && shiftValid F.sZ2 && shiftValid F.s2 && shiftValid F.sB1 && shiftValid F.sB2 &&
  shiftValid F.sOut

/-- R9, with R53's condition on `SEED_ADDR` and the ranges that R8 gives `UPDATE_RATE`, `OVF_RATE` and `WIN_BASE` (DEDUCED, safe:
notes/assumptions/18.md). `RELOAD` need not be its default (notes/assumptions/24.md). -/
def configValid (c : Config) : Bool :=
  decide (1 ≤ c.reload ∧ c.reload ≤ 65535) && decide (c.wind ≤ 255) && decide (1 ≤ c.mapDiv ∧ c.mapDiv ≤ 32767) &&
  filterValid c.filter && decide (c.seedAddr + 4 ≤ c.storeSize) && decide (c.winBase % 64 = 0) &&
  decide (1 ≤ c.updateRate) && decide (1 ≤ c.ovfRate.num ∧ 1 ≤ c.ovfRate.den)

end Sys2Proof.Machine
end

