-- ==== Sys2Proof/WellFormed.lean ====
section
/-! DEFINITION. Which terms of `Instr` are commands: the one operand constraint of `30_encoding.md` R82 and R84. -/

namespace Sys2Proof

/-- DRAW needs `N <= 8`; every other command is well formed whatever its fields (R82, R84). -/
def Instr.wf : Instr → Bool
  | .nop => true
  | .step => true
  | .draw n => decide (n.toNat ≤ 8)
  | .normal => true
  | .filter _ => true
  | .map => true
  | .update => true
  | .ovf => true
  | .take => true

end Sys2Proof
end

