-- ==== Sys2Proof/Decode.lean ====
section
/-! DEFINITION. The decode function of `30_encoding.md` R86, total on every 32-bit word, and the encoder of R80 and R84. -/

namespace Sys2Proof

/-! ### The fields of a command word (R80) -/

/-- `RSV = w[31:16]`. -/
def rsvField (w : Word) : BitVec 16 := w.extractLsb' 16 16

/-- `OP = w[15:12]`. -/
def opField (w : Word) : BitVec 4 := w.extractLsb' 12 4

/-- `N = w[11:8]`. -/
def nField (w : Word) : BitVec 4 := w.extractLsb' 8 4

/-- `IMM8 = w[7:0]`. -/
def immField (w : Word) : BitVec 8 := w.extractLsb' 0 8

/-- What a word decodes to: a command, or an illegal command with its cause (R86). -/
inductive Decoded where
  | op (i : Instr)
  | illegal (c : Cause)
  deriving DecidableEq, Repr

/-- The opcode map of R84 on a word whose fields have passed R86's checks; 0x9 to 0xF are reserved. -/
def decodeOp (w : Word) : Decoded :=
  match (opField w).toNat with
  | 0x0 => .op .nop
  | 0x1 => .op .step
  | 0x2 => .op (.draw (nField w))
  | 0x3 => .op .normal
  | 0x4 => .op (.filter (immField w))
  | 0x5 => .op .map
  | 0x6 => .op .update
  | 0x7 => .op .ovf
  | 0x8 => .op .take
  | _ => .illegal .opReserved

/-- R86, check by check in its order. -/
def decode (m : Mode) (w : Word) : Decoded :=
  if m = .run then .illegal .cmdInRun
  else if rsvField w ≠ 0 then .illegal .rsvNonzero
  else if 0x9 ≤ (opField w).toNat then .illegal .opReserved
  else if opField w = 0x2 ∧ 8 < (nField w).toNat then .illegal .drawRange
  else if opField w ≠ 0x2 ∧ nField w ≠ 0 then .illegal .fieldNonzero
  else if opField w ≠ 0x4 ∧ immField w ≠ 0 then .illegal .fieldNonzero
  else decodeOp w

/-! ### The encoder (R80, R84) -/

/-- The command word with `RSV = 0` and the given fields (R80). -/
def packWord (op n : BitVec 4) (imm : BitVec 8) : Word := 0#16 ++ op ++ n ++ imm

/-- The OP code of a command (R84). -/
def Instr.opcode : Instr → BitVec 4
  | .nop => 0x0
  | .step => 0x1
  | .draw _ => 0x2
  | .normal => 0x3
  | .filter _ => 0x4
  | .map => 0x5
  | .update => 0x6
  | .ovf => 0x7
  | .take => 0x8

/-- The N field of a command: 0 for all but DRAW (R80). -/
def Instr.countField : Instr → BitVec 4
  | .draw n => n
  | .nop | .step | .normal | .filter _ | .map | .update | .ovf | .take => 0

/-- The IMM8 field of a command: 0 for all but FILTER (R80). -/
def Instr.immediateField : Instr → BitVec 8
  | .filter x => x
  | .nop | .step | .draw _ | .normal | .map | .update | .ovf | .take => 0

/-- The word that runs a command when HOST writes it to CMD (R84). -/
def encode (i : Instr) : Word := packWord i.opcode i.countField i.immediateField

/-! ### A word as the bus carries it (`20_memory.md` R58) -/

/-- Byte lane `k` of a value: bits `8*k+7 .. 8*k`. -/
def laneOf (v k : Nat) : Byte := BitVec.ofNat 8 (v / 2 ^ (8 * k))

/-- The register value whose byte lanes, lowest first, are `b0 .. b3`: little-endian (R58). -/
def wordOfLanes (b0 b1 b2 b3 : Byte) : Word := b3 ++ b2 ++ b1 ++ b0

/-- The CMD value of an instruction whose table bits are `w`; every bit above `nbits` is 0. -/
def tableWord (nbits w : Nat) : Word :=
  let v := w % 2 ^ nbits
  wordOfLanes (laneOf v 0) (laneOf v 1) (laneOf v 2) (laneOf v 3)

/-- The command a table word decodes to in TEST mode, the only mode in which a word decodes (R86). CMD is 32 bits wide: a longer
value is no command word. -/
def decodeTableWord (nbits w : Nat) : Option Instr :=
  if w % 2 ^ nbits < 2 ^ 32 then
    match decode .test (tableWord nbits w) with
    | .op i => some i
    | .illegal _ => none
  else none

end Sys2Proof
end

