-- ==== Sys2Proof/Machine/Operands.lean ====
section
/-! DEFINITION. The width, shift and division primitives of `00_scope.md` R12 and R13, and how operands are read and results placed
(`30_encoding.md` R82, R83). Arithmetic is on mathematical integers (R11); a width is imposed only where a rule names one. -/

namespace Sys2Proof.Machine

/-- `wrap_N(v)`, the two's-complement reading of `v` (R12). -/
def wrap (N : Nat) (v : Int) : Int :=
  let t := v % 2 ^ N
  if 2 ^ (N - 1) ≤ t then t - 2 ^ N else t

/-- `clamp(lo, hi, v)` (R12). -/
def clamp (lo hi v : Int) : Int := if v < lo then lo else if hi < v then hi else v

/-- `fdiv(v, d) = floor(v / d)` for `d >= 1` (R13). -/
def fdiv (v : Int) (d : Nat) : Int := v.fdiv d

/-- `asr(v, s) = floor(v / 2^s)` (R13). -/
def asr (v : Int) (s : Nat) : Int := fdiv v (2 ^ s)

/-- `zext_32(b)` of a bit (R12, R83). -/
def zextBit (b : Bool) : Word := if b then 1 else 0

/-- `zext_32(v)` of an unsigned value (R12, R83). -/
def zext32 (v : Nat) : Word := BitVec.ofNat 32 v

/-- `sext_32(v)` of a signed value (R12, R83). -/
def sext32 (v : Int) : Word := BitVec.ofInt 32 v

/-- FILTER's operand, `x = wrap_8(IMM8)` (R82). -/
def filterOperand (imm : BitVec 8) : Int := imm.toInt

/-- MAP's operand, `y = wrap_16(S.ARG[15:0])` (R82). -/
def mapOperand (arg : Word) : Int := (arg.extractLsb' 0 16).toInt

end Sys2Proof.Machine
end

