-- ==== Sys2Proof/Machine/Filter.lean ====
section
/-! DEFINITION. The fixed-point filter (`42_filter.md` R142): products exact, shifts floor, sums wrapped to 32 bits, the output to 16
(R143, R144). -/

namespace Sys2Proof.Machine

/-- Step 2 of R142: the accumulator, from the scaled input contribution `u` and the first delay term. -/
def accumulator (F : FilterCfg) (z1 x : Int) : Int :=
  let u := wrap 32 (asr (F.cIn * x) F.sIn)
  wrap 32 (u + z1)

/-- `filter(F, (z1, z2), x)` (R142). `z1'` reads the old `z2`. -/
def filter (F : FilterCfg) (z : Int × Int) (x : Int) : (Int × Int) × Int :=
  let y := accumulator F z.1 x
  let z1' := wrap 32 (asr (F.c1 * y) F.s1 + asr z.2 F.sZ2 + asr (F.cB1 * x) F.sB1)
  let z2' := wrap 32 (asr (F.c2 * y) F.s2 + asr (F.cB2 * x) F.sB2)
  ((z1', z2'), wrap 16 (asr y F.sOut))

end Sys2Proof.Machine
end

