-- ==== Sys2Proof/Machine/Mapper.lean ====
section
/-! DEFINITION. The intensity mapper (`43_mapper.md` R160): floor division, then a clamp, the only saturation in the block (R132). -/

namespace Sys2Proof.Machine

/-- `intensity(y)` (R160). -/
def intensity (c : Config) (y : Int) : Int :=
  let baseline : Int := 255 - c.wind
  clamp 0 255 (baseline + fdiv y c.mapDiv)

/-- The intensity as the `u8` that the port takes. -/
def dutyOf (c : Config) (y : Int) : Byte := BitVec.ofInt 8 (intensity c y)

end Sys2Proof.Machine
end

