-- ==== Sys2Proof/Machine/Flags.lean ====
section
/-! DEFINITION. The block's two flags, `S.TICK` (`10_state.md` R26) and `S.ERR` with its cause (R31), and the STATUS word that shows
them (R33). -/

namespace Sys2Proof.Machine

/-- `S.TICK <- b` (R26). -/
def State.setTick (b : Bool) (s : State) : State := { s with tick := b }

/-- The code of a cause (`60_exceptions.md` R220). -/
def causeCode : Cause → BitVec 4
  | .cmdInRun => 1
  | .rsvNonzero => 2
  | .opReserved => 3
  | .drawRange => 4
  | .fieldNonzero => 5

/-- `S.ERR <- 1; S.CAUSE <- code`, also when `S.ERR` is already 1 (R31, R220). -/
def State.setErr (c : Cause) (s : State) : State := { s with err := true, cause := causeCode c }

/-- `S.ERR <- 0; S.CAUSE <- 0` (R31). -/
def State.clearErr (s : State) : State := { s with err := false, cause := 0 }

/-- One bit of a register. -/
def bit (b : Bool) : BitVec 1 := BitVec.ofBool b

/-- The STATUS word (R33): TEST in bit 0, TICK in 1, UPD in 2, ERR in 3, CAUSE in 7:4, zeros above. -/
def State.status (s : State) : Word :=
  0#24 ++ s.cause ++ bit s.err ++ bit (decide (s.phase = .updating)) ++ bit s.tick ++ bit (decide (s.mode = .test))

end Sys2Proof.Machine
end

