-- ==== Sys2Proof/Machine/Ops.lean ====
section
/-! DEFINITION. The named operations on registers, on the seed store, and the two error responses (`60_exceptions.md` R220, R221). -/

namespace Sys2Proof.Machine

/-! ### Register writes (`00_scope.md` R14) -/

/-- `S.LFSR <- w`. -/
def State.setLfsr (w : Word) (s : State) : State := { s with lfsr := w }

/-- `S.Z1 <- z1; S.Z2 <- z2`, each an `s32` (`10_state.md` R25). -/
def State.setDelays (z : Int × Int) (s : State) : State := { s with z1 := BitVec.ofInt 32 z.1, z2 := BitVec.ofInt 32 z.2 }

/-- `(S.Z1, S.Z2)` as signed integers. -/
def State.delays (s : State) : Int × Int := (s.z1.toInt, s.z2.toInt)

/-- `S.CNT <- c`. -/
def State.setCnt (c : BitVec 16) (s : State) : State := { s with cnt := c }

/-- `S.PHASE <- p`. -/
def State.setPhase (p : Phase) (s : State) : State := { s with phase := p }

/-- `S.ARG <- v`. -/
def State.setArg (v : Word) (s : State) : State := { s with arg := v }

/-- `S.RES <- v`. -/
def State.setRes (v : Word) (s : State) : State := { s with res := v }

/-- `DutyWrite(d)` (`43_mapper.md` R163): the latch takes the value, and the PWM generator outside sees one more write. -/
def State.dutyWrite (d : Byte) (s : State) : State := { s with duty := d, port := d :: s.port }

/-- HOST gets a response to its access. -/
def State.respond (r : Resp) (s : State) : State := { s with resp := r }

/-- What remains to happen after the first event of the agenda. -/
def State.withAgenda (es : List Event) (s : State) : State := { s with agenda := es }

/-! ### The seed store (`20_memory.md` R50 to R53) -/

/-- What a store byte that nothing has written reads as. The spec lets it be any value (`70_reset_and_hazards.md` R254).
DESIGN CHOICE, unsafe: notes/assumptions/6.md. -/
def blankByte : Byte := 0

/-- The byte at address `a`. -/
def readCells : List Host.Cell → Nat → Byte
  | [], _ => blankByte
  | (b, v) :: rest, a => if b = a then v else readCells rest a

/-- Put a cell at the front of a list of cells, unless its byte is the blank one. -/
def consCell (a : Nat) (v : Byte) (m : List Host.Cell) : List Host.Cell := if v = blankByte then m else (a, v) :: m

/-- Write one byte, keeping the addresses rising and no blank byte listed. -/
def writeCells : List Host.Cell → Nat → Byte → List Host.Cell
  | [], a, v => consCell a v []
  | (b, u) :: rest, a, v =>
    if a < b then consCell a v ((b, u) :: rest)
    else if a = b then consCell a v rest
    else (b, u) :: writeCells rest a v

/-- The canonical form: addresses strictly rising, every one at least `lo` and below `size`, no blank byte listed. -/
def cellsWf (size : Nat) : Nat → List Host.Cell → Bool
  | _, [] => true
  | lo, (a, v) :: rest => decide (lo ≤ a) && decide (a < size) && decide (v ≠ blankByte) && cellsWf size (a + 1) rest

/-- `Memory.wf`: the store is in canonical form and lies inside its size. -/
def Memory.wf (s : State) : Bool := cellsWf s.cfg.storeSize 0 s.store

/-- `st[a]` (R52). -/
def State.storeByte (s : State) (a : Nat) : Byte := readCells s.store a

/-- `st[a] <- v` (R52). -/
def State.setStoreByte (a : Nat) (v : Byte) (s : State) : State := { s with store := writeCells s.store a v }

/-- Byte `i` of a word, little-endian (R52, R58). -/
def byteOf (v : Word) (i : Nat) : Byte := v.extractLsb' (8 * i) 8

/-- `SeedRead()` (R52): the four bytes at `SEED_ADDR`, little-endian. -/
def State.seedRead (s : State) : Word :=
  s.storeByte (s.cfg.seedAddr + 3) ++ s.storeByte (s.cfg.seedAddr + 2) ++ s.storeByte (s.cfg.seedAddr + 1) ++
    s.storeByte s.cfg.seedAddr

/-- Write byte `i` of the seed word, for the bytes that `which` selects. -/
def State.seedWriteSome (which : BitVec 4) (v : Word) (s : State) : State :=
  let put := fun (i : Nat) (t : State) => if which.getLsbD i then t.setStoreByte (s.cfg.seedAddr + i) (byteOf v i) else t
  put 3 (put 2 (put 1 (put 0 s)))

/-- `SeedWrite(v)` (R52): the four bytes at `SEED_ADDR`, little-endian, byte 0 first. -/
def State.seedWrite (v : Word) (s : State) : State := s.seedWriteSome 0xF v

/-! ### The two error responses -/

/-- `raise IllegalCommand(w, cause)` (R220): `S.ERR` and `S.CAUSE`, and nothing else. The faulting word is not recorded, no control is
transferred (R225), and there is no return from it (R226); HOST's clear is `State.clearErr`. -/
def State.raiseIllegal (c : Cause) (s : State) : State := s.setErr c

/-- `raise BusError(addr)` (R221): the access gets the outcome "bus error" in place of a value; no state of the block changes.
DEDUCED, safe: notes/assumptions/10.md. -/
def State.raiseBusError (addr : Nat) (s : State) : State := s.respond (.busError addr)

end Sys2Proof.Machine
end

