-- ==== Sys2Proof/Machine/BitSource.lean ====
section
/-! DEFINITION. The deterministic bit source (`40_bitsource.md`): the LFSR step, the draw, and the boot step's seed adjustment. -/

namespace Sys2Proof.Machine

/-- `POLY` (`00_scope.md` R7). -/
def poly : Word := 0xA3AC183C

/-- `lfsr_step(s)`: the next state and the emitted bit (R110). -/
def lfsrStep (s : Word) : Word × Bool :=
  let b := s.getLsbD 0
  let t := s >>> 1
  (if b then t ^^^ poly else t, b)

/-- The loop of R112: `n` steps, the value so far doubled and the new bit added each time. -/
def drawLoop : Nat → Word × Nat → Word × Nat
  | 0, p => p
  | n + 1, (s, v) =>
    let r := lfsrStep s
    drawLoop n (r.1, 2 * v + r.2.toNat)

/-- `draw(s, n)` (R112). -/
def draw (s : Word) (n : Nat) : Word × Nat := drawLoop n (s, 0)

/-- `seed_adjust(v)` (R113). Each loop of the rule runs at most once more, since `0 + 1` is not 0, so it is one conditional here
(DEDUCED, safe: notes/assumptions/22.md). -/
def seedAdjust (policy : SeedAdvance) (v : Word) : Word :=
  match policy with
  | .always =>
    let t := v + 1
    if t = 0 then t + 1 else t
  | .ifZero => if v = 0 then v + 1 else v

/-- The seed that the boot step of state `s` starts from: `seed_adjust(SeedRead())`. -/
def State.bootSeed (s : State) : Word := seedAdjust s.cfg.seedAdvance s.seedRead

/-- `boot_step` (R113, R171): the adjusted seed is written back, shown in `S.SEEDW`, loaded into `S.LFSR`, and the phase is IDLE. -/
def bootStep (s : State) : State :=
  let s0 := s.bootSeed
  { s.seedWrite s0 with seedw := s0, lfsr := s0, phase := .idle }

end Sys2Proof.Machine
end

