-- ==== Sys2Proof/Machine/Shaper.lean ====
section
/-! DEFINITION. The distribution shaper (`41_shaper.md` R130): it wraps and never saturates (R132). -/

namespace Sys2Proof.Machine

/-- The binomial loop of R130: `n` steps, each adding 16 for a set bit, wrapped to 8 bits. -/
def binomLoop : Nat → Word × Int → Word × Int
  | 0, p => p
  | n + 1, (s, acc) =>
    let r := lfsrStep s
    binomLoop n (r.1, wrap 8 (acc + 16 * r.2.toNat))

/-- `normal(s)` (R130): the 16 binomial bits, then the minuend `a`, then the subtrahend `c`. -/
def normal (s : Word) : Word × Int :=
  let p := binomLoop 16 (s, -128)
  let a := draw p.1 4
  let c := draw a.1 4
  (c.1, wrap 8 (p.2 + a.2 - c.2))

end Sys2Proof.Machine
end

