-- ==== Sys2Proof/Machine/Scheduler.lean ====
section
/-! DEFINITION. The real-time scheduler (`44_scheduler.md`): the overflow step, the observe-and-clear, the update cycle, and reset
(`70_reset_and_hazards.md` R250). -/

namespace Sys2Proof.Machine

/-- `ovf_apply` (R170): decrement; on expiry reload and set the tick flag. `S.CNT` is never 0 (R27); there the decrement would wrap
(DESIGN CHOICE, safe: notes/assumptions/13.md). -/
def ovfApply (s : State) : State :=
  let c := s.cnt - 1
  if c = 0 then (s.setCnt (BitVec.ofNat 16 s.cfg.reload)).setTick true else s.setCnt c

/-- `overflow_step` (R170, R175): TMR's step for one overflow event. In TEST mode and before the boot step the event has no effect. -/
def overflowStep (s : State) : State := if s.mode = .run ∧ s.phase ≠ .boot then ovfApply s else s

/-- `observe_and_clear` (R172). -/
def observeAndClear (s : State) : State := (s.setTick false).setPhase .updating

/-- `update_apply` (R173): the state after, and the duty value written. -/
def updateApply (s : State) : State × Byte :=
  let n := normal s.lfsr
  let f := filter s.cfg.filter s.delays n.2
  let d := dutyOf s.cfg f.2
  (((s.setLfsr n.1).setDelays f.1).dutyWrite d, d)

/-- `update_cycle` (R173). -/
def updateCycle (s : State) : State := (updateApply s).1.setPhase .idle

/-- SEQ's turn: its one enabled step, by the table of R176; the same state where it has none, the low-power wait (R174). In TEST mode
SEQ's only step is the boot step (R175; DEDUCED for a phase that TEST mode never has: notes/assumptions/14.md). -/
def seqTurn (s : State) : State :=
  match s.phase with
  | .boot => bootStep s
  | .idle => if s.mode = .run ∧ s.tick = true then observeAndClear s else s
  | .updating => if s.mode = .run then updateCycle s else s

/-- The `TEST` strap's mode (`10_state.md` R30). -/
def strapMode (test : Bool) : Mode := if test then .test else .run

/-- Reset (R250): every register at its value of `10_state.md` R34, the strap sampled, the store and the port not touched. LFSR and
SEEDW are fresh free values (R34, I1). -/
def resetBlock (test : Bool) (s : State) : State :=
  { s with
    lfsr := Config.freeWord s.draws
    seedw := Config.freeWord (s.draws + 1)
    draws := s.draws + 2
    z1 := 0
    z2 := 0
    tick := false
    cnt := BitVec.ofNat 16 s.cfg.reload
    phase := .boot
    duty := s.cfg.dutyReset
    mode := strapMode test
    err := false
    cause := 0
    arg := 0
    res := 0 }

/-- Power lost and regained (`60_exceptions.md` R232): a reset. Where it cuts the boot write, each byte of the seed word holds its old
or its new value, as `torn` says (`20_memory.md` R54, I4; DEDUCED, safe: notes/assumptions/17.md). -/
def powerCycle (test : Bool) (torn : BitVec 4) (s : State) : State :=
  resetBlock test (if s.phase = .boot then s.seedWriteSome torn s.bootSeed else s)

end Sys2Proof.Machine
end

