-- ==== Sys2Proof/Machine/Commands.lean ====
section
/-! DEFINITION. The meanings of the nine commands (`45_command_port.md` R192 to R200). Each reuses a component function and defines no
arithmetic of its own. -/

namespace Sys2Proof.Machine

/-- Run a command's effect in TEST mode; in RUN mode every command is illegal, cause 1 (R191; DEDUCED that the meaning itself checks it:
notes/assumptions/15.md). -/
def State.inTest (s effect : State) : Host.Outcome State Fault Refusal :=
  .next (if s.mode = .test then effect else s.raiseIllegal .cmdInRun)

/-- NOP (R192). -/
def execNop (s : State) : Host.Outcome State Fault Refusal := s.inTest s

/-- STEP (R193): one LFSR step; RES gets the bit. -/
def execStep (s : State) : Host.Outcome State Fault Refusal :=
  let r := lfsrStep s.lfsr
  s.inTest ((s.setLfsr r.1).setRes (zextBit r.2))

/-- DRAW n (R194): an n-bit draw; RES gets the value. With `n > 8` it is illegal, cause 4, and the LFSR does not step. -/
def execDraw (n : BitVec 4) (s : State) : Host.Outcome State Fault Refusal :=
  let r := draw s.lfsr n.toNat
  s.inTest (if n.toNat ≤ 8 then (s.setLfsr r.1).setRes (zext32 r.2) else s.raiseIllegal .drawRange)

/-- NORMAL (R195): one shaper sample; RES gets it, sign-extended. -/
def execNormal (s : State) : Host.Outcome State Fault Refusal :=
  let r := normal s.lfsr
  s.inTest ((s.setLfsr r.1).setRes (sext32 r.2))

/-- FILTER x (R196): one filter invocation; RES gets the output, sign-extended. -/
def execFilter (x : BitVec 8) (s : State) : Host.Outcome State Fault Refusal :=
  let f := filter s.cfg.filter s.delays (filterOperand x)
  s.inTest ((s.setDelays f.1).setRes (sext32 f.2))

/-- MAP (R197): RES gets the intensity of `ARG[15:0]`; the port is not written. -/
def execMap (s : State) : Host.Outcome State Fault Refusal :=
  s.inTest (s.setRes (zext32 (intensity s.cfg (mapOperand s.arg)).toNat))

/-- UPDATE (R198): the update cycle's work; RES gets the duty. TICK and PHASE are neither read nor written. -/
def execUpdate (s : State) : Host.Outcome State Fault Refusal :=
  let u := updateApply s
  s.inTest (u.1.setRes (zext32 u.2.toNat))

/-- OVF (R199): one overflow step's work; RES is unchanged. -/
def execOvf (s : State) : Host.Outcome State Fault Refusal := s.inTest (ovfApply s)

/-- TAKE (R200): RES gets the tick flag, and the flag is cleared. PHASE is unchanged. -/
def execTake (s : State) : Host.Outcome State Fault Refusal := s.inTest ((s.setRes (zextBit s.tick)).setTick false)

end Sys2Proof.Machine
end

