-- ==== Sys2Proof/Machine/Dispatch.lean ====
section
/-! DEFINITION. `execute(op)` of `45_command_port.md` R190: one arm per command. -/

namespace Sys2Proof.Machine

def exec (i : Instr) (s : State) : Host.Outcome State Fault Refusal :=
  match i with
  | .nop => Sys2Proof.Machine.execNop s
  | .step => Sys2Proof.Machine.execStep s
  | .draw n => Sys2Proof.Machine.execDraw n s
  | .normal => Sys2Proof.Machine.execNormal s
  | .filter x => Sys2Proof.Machine.execFilter x s
  | .map => Sys2Proof.Machine.execMap s
  | .update => Sys2Proof.Machine.execUpdate s
  | .ovf => Sys2Proof.Machine.execOvf s
  | .take => Sys2Proof.Machine.execTake s

end Sys2Proof.Machine
end

