-- ==== Sys2Proof/Machine/Window.lean ====
section
/-! DEFINITION. HOST's accesses: the register window (`10_state.md` R33, `20_memory.md` R55 to R58, `45_command_port.md` R190, R201,
R202) and the seed store (`10_state.md` R20). -/

namespace Sys2Proof.Machine

/-- How many bytes an access moves. -/
def widthBytes : Width → Nat
  | .b1 => 1
  | .b2 => 2
  | .b4 => 4
  | .b8 => 8

/-- The access touches a byte of the window, `WIN_BASE .. WIN_BASE + 0x3F`; any other access belongs to the platform (R56; DEDUCED,
safe: notes/assumptions/11.md). -/
def touchesWindow (c : Config) (w : Width) (a : Nat) : Bool := decide (c.winBase < a + widthBytes w ∧ a < c.winBase + 0x40)

/-- A legal access (R55): 4 bytes wide, 4-byte aligned, inside the window. -/
def legalAccess (c : Config) (w : Width) (a : Nat) : Bool :=
  decide (w = .b4) && decide (a % 4 = 0) && decide (c.winBase ≤ a ∧ a ≤ c.winBase + 0x3C)

/-- The value of the window register at offset `o` (R33, R201). CMD and the reserved offsets read 0. -/
def readReg (o : Nat) (s : State) : Word :=
  match o with
  | 0x04 => s.arg
  | 0x08 => s.res
  | 0x0C => s.status
  | 0x10 => s.lfsr
  | 0x14 => s.z1
  | 0x18 => s.z2
  | 0x1C => 0#16 ++ s.cnt
  | 0x20 => 0#24 ++ s.duty
  | 0x24 => s.seedw
  | 0x28 => 0#8 ++ BitVec.ofNat 8 s.cfg.wind ++ BitVec.ofNat 16 s.cfg.reload
  | 0x2C => 0#17 ++ BitVec.ofNat 15 s.cfg.mapDiv
  | _ => 0

/-- Byte `k` of the window, little-endian within its register (R58). No access shows a byte on its own (R56). -/
def windowByte (k : Nat) (s : State) : Byte := byteOf (readReg (4 * (k / 4)) s) (k % 4)

/-- `cmd_write(w)` (R190). -/
def cmdWrite (w : Word) (s : State) : Host.Outcome State Fault Refusal :=
  match decode s.mode w with
  | .illegal c => .next (s.raiseIllegal c)
  | .op i => exec i s

/-- A write to the window register at offset `o` (R33, R190, R202). Every offset but CMD, ARG and STATUS ignores it. -/
def writeReg (o : Nat) (v : Word) (s : State) : Host.Outcome State Fault Refusal :=
  match o with
  | 0x00 => cmdWrite v s
  | 0x04 => .next (s.setArg v)
  | 0x0C => .next (if v.getLsbD 3 then s.clearErr else s)
  | _ => .next s

/-- `MemRead(a, w)` (R55, R56, R201). -/
def hostRead (w : Width) (a : Nat) (s : State) : Host.Outcome State Fault Refusal :=
  if touchesWindow s.cfg w a then
    if legalAccess s.cfg w a then .next (s.respond (.data (readReg (a - s.cfg.winBase) s))) else .next (s.raiseBusError a)
  else .next (s.respond (.notWindow a))

/-- `MemWrite(a, w, v)` (R55, R56, R190, R202). -/
def hostWrite (w : Width) (a : Nat) (v : Word) (s : State) : Host.Outcome State Fault Refusal :=
  if touchesWindow s.cfg w a then
    if legalAccess s.cfg w a then writeReg (a - s.cfg.winBase) v (s.respond .written) else .next (s.raiseBusError a)
  else .next (s.respond (.notWindow a))

/-- HOST reads a byte of its store (DEDUCED, safe: notes/assumptions/19.md and 23.md). -/
def hostStoreRead (a : Nat) (s : State) : Host.Outcome State Fault Refusal :=
  if a < s.cfg.storeSize then .next (s.respond (.storeByte (s.storeByte a))) else .fault (.noStoreByte a)

/-- HOST writes a byte of its store (DEDUCED, safe: notes/assumptions/19.md and 23.md). -/
def hostStoreWrite (a : Nat) (v : Byte) (s : State) : Host.Outcome State Fault Refusal :=
  if a < s.cfg.storeSize then .next ((s.setStoreByte a v).respond .storeWritten) else .fault (.noStoreByte a)

end Sys2Proof.Machine
end

