-- ==== Sys2Proof/Machine/Agents.lean ====
section
/-! DEFINITION. One atomic step of one agent (`10_state.md` R20), as the head of the agenda says, and how a command is put where the
machine takes it next. -/

namespace Sys2Proof.Machine

/-- In phase BOOT the only enabled step is the boot step: a window or store access waits, still at the head of the agenda, until it has
run (`70_reset_and_hazards.md` R251, I9; DEDUCED, safe: notes/assumptions/12.md). -/
def State.stalled (s : State) (rest : List Event) (access : State → Host.Outcome State Fault Refusal) :
    Host.Outcome State Fault Refusal :=
  if s.phase = .boot then .next (bootStep s) else access (s.withAgenda rest)

/-- The step that the first event of a non-empty agenda stands for. `rest` is what follows it. -/
def eventStep (e : Event) (rest : List Event) (s : State) : Host.Outcome State Fault Refusal :=
  match e with
  | .seq => .next (seqTurn (s.withAgenda rest))
  | .ovf => .next (overflowStep (s.withAgenda rest))
  | .read w a => s.stalled rest (hostRead w a)
  | .write w a v => s.stalled rest (hostWrite w a v)
  | .storeRead a => s.stalled rest (hostStoreRead a)
  | .storeWrite a v => s.stalled rest (hostStoreWrite a v)
  | .reset test => .next (resetBlock test (s.withAgenda rest))
  | .powerCycle test torn => .next (powerCycle test torn (s.withAgenda rest))

/-- One step of a valid machine: the agenda's first event, or, when HOST and its timer do nothing more, SEQ's turn (DEDUCED, safe:
notes/assumptions/8.md). -/
def agendaStep (s : State) : Host.Outcome State Fault Refusal :=
  match s.agenda with
  | [] => .next (seqTurn s)
  | e :: rest => eventStep e rest s

/-- One step. The model refuses an invalid configuration: "there is no machine for it, and no step" (`00_scope.md` R9). -/
def machineStep (s : State) : Host.Outcome State Fault Refusal :=
  if configValid s.cfg then agendaStep s else .refused .invalidConfig

/-- Make the command word `w` the very next thing that happens: the boot step is over, the mode is TEST, and HOST's write of `w` to CMD
stands first on the agenda (DESIGN CHOICE: notes/assumptions/9.md). -/
def State.queueCommand (w : Word) (s : State) : State :=
  { s with phase := .idle, mode := .test, agenda := .write .b4 s.cfg.winBase w :: s.agenda }

end Sys2Proof.Machine
end

