-- ==== Sys2Proof/Machine/Step.lean ====
section
/-! DEFINITION. The machine's step and the placing of a command, both one call of `Machine/Agents.lean`. -/

namespace Sys2Proof.Machine

/-- One atomic step of one agent (`10_state.md` R20). -/
def step (s : State) : Host.Outcome State Fault Refusal := machineStep s

/-- `s` with the command whose table bits are `w` as the next thing that HOST does (notes/assumptions/9.md). -/
def State.withFetchWord (s : State) (nbits w : Nat) : State := s.queueCommand (tableWord nbits w)

end Sys2Proof.Machine
end

