-- ==== Sys2Proof/Machine/Listing.lean ====
section
/-! DEFINITION. The host listing syntax of `30_encoding.md` R87 and the pseudo-operations of R88, as events of the agenda. Offsets are
relative to `WIN_BASE`. -/

namespace Sys2Proof.Machine

/-- `wr OFF, VALUE` (R87). -/
def wr (c : Config) (off : Nat) (v : Word) : Event := .write .b4 (c.winBase + off) v

/-- `rd OFF` (R87). -/
def rd (c : Config) (off : Nat) : Event := .read .b4 (c.winBase + off)

/-- `wr.W OFF, VALUE` (R87). -/
def wrW (c : Config) (w : Width) (off : Nat) (v : Word) : Event := .write w (c.winBase + off) v

/-- `rd.W OFF` (R87). -/
def rdW (c : Config) (w : Width) (off : Nat) : Event := .read w (c.winBase + off)

/-- `reset store=V test=T` (R87): HOST sets the four seed bytes, little-endian, and then asserts reset. -/
def resetWith (c : Config) (v : Word) (test : Bool) : List Event :=
  [.storeWrite c.seedAddr (byteOf v 0), .storeWrite (c.seedAddr + 1) (byteOf v 1), .storeWrite (c.seedAddr + 2) (byteOf v 2),
    .storeWrite (c.seedAddr + 3) (byteOf v 3), .reset test]

/-- `seq` (R87): SEQ takes enabled steps until it waits. With no other agent's step between them it has at most three, an update cycle,
an observe-and-clear and another update cycle; a turn without an enabled step changes nothing. -/
def seqUntilWait : List Event := [.seq, .seq, .seq]

/-- A command mnemonic stands for the write of its word to CMD (R87). -/
def command (c : Config) (i : Instr) : Event := wr c 0x00 (encode i)

/-- `MAPV y` (R88). -/
def mapv (c : Config) (y : BitVec 16) : List Event := [wr c 0x04 (y.signExtend 32), wr c 0x00 0x00005000]

/-- `CLRERR` (R88). -/
def clrErr (c : Config) : Event := wr c 0x0C 0x00000008

/-- `RES -> v` (R88): the read whose response the listing expects to be `v`. -/
def readRes (c : Config) : Event := rd c 0x08

/-- The seed word as HOST finds it in the store, `store -> V` (R87); not a window access. -/
def State.storedSeed (s : State) : Word := s.seedRead

end Sys2Proof.Machine
end

