-- ==== Sys2Proof/Safety.lean ====
section
/-! DEFINITION. What counts as a safe run: the invariant of the machine, runs, and the counts that claims about runs use. -/

namespace Sys2Proof.Machine

/-- What the spec says of every state between two steps. -/
structure State.Inv (s : State) : Prop where
  /-- Only a valid configuration has a machine (`00_scope.md` R9). -/
  config : configValid s.cfg = true
  /-- The store is in canonical form and inside its size (`20_memory.md` R53). -/
  store : Memory.wf s = true
  /-- `S.LFSR` is non-zero in every state after the boot step (`10_state.md` R24). -/
  lfsr : s.phase ≠ .boot → s.lfsr ≠ 0
  /-- `S.CNT` lies in 1 .. RELOAD (R27). -/
  cnt : 1 ≤ s.cnt.toNat ∧ s.cnt.toNat ≤ s.cfg.reload
  /-- UPDATING is reachable only in RUN mode (`44_scheduler.md` R173, R175). -/
  phase : s.phase = .updating → s.mode = .run
  /-- CAUSE is 0 exactly when ERR is, and codes 6 to 15 are never written (R31, `60_exceptions.md` R220). -/
  cause : (s.err = false ↔ s.cause = 0) ∧ s.cause.toNat ≤ 5
  /-- No command runs in RUN mode, so RES keeps its reset value there (`70_reset_and_hazards.md` R256). -/
  res : s.mode = .run → s.res = 0
  /-- In phase BOOT every register that R34 gives a value has it (`10_state.md` R34). -/
  boot : s.phase = .boot → s.z1 = 0 ∧ s.z2 = 0 ∧ s.tick = false ∧ s.cnt.toNat = s.cfg.reload ∧ s.duty = s.cfg.dutyReset ∧
    s.err = false ∧ s.cause = 0 ∧ s.arg = 0 ∧ s.res = 0
  /-- The duty latch holds the last value driven on the port, or its reset value (R29). -/
  duty : s.duty = s.cfg.dutyReset ∨ s.port.head? = some s.duty

/-- `n` steps of a step function, stopping at the first fault or refusal. -/
def runWith (f : State → Host.Outcome State Fault Refusal) : Nat → State → Host.Outcome State Fault Refusal
  | 0, s => .next s
  | n + 1, s =>
    match f s with
    | .next t => runWith f n t
    | .fault r => .fault r
    | .refused r => .refused r

/-- `n` steps of the machine. -/
def runFor (n : Nat) (s : State) : Host.Outcome State Fault Refusal := runWith step n s

/-- The next step is an expiry: an overflow step that reloads the counter (`44_scheduler.md` R170). -/
def State.isExpiry (s : State) : Bool :=
  decide (s.agenda.head? = some .ovf) && decide (s.mode = .run) && decide (s.phase ≠ .boot) && decide (s.cnt = 1)

/-- The next step gives SEQ its turn. -/
def State.isSeqTurn (s : State) : Bool := decide (s.agenda = []) || decide (s.agenda.head? = some .seq)

/-- The next step is an update cycle (R173). -/
def State.isUpdate (s : State) : Bool := s.isSeqTurn && decide (s.mode = .run) && decide (s.phase = .updating)

/-- How many of the next `n` steps of a step function are taken from a state with the property; a run that stops counts no further. -/
def countWith (f : State → Host.Outcome State Fault Refusal) (p : State → Bool) : Nat → State → Nat
  | 0, _ => 0
  | n + 1, s =>
    match f s with
    | .next t => (if p s then 1 else 0) + countWith f p n t
    | .fault _ => 0
    | .refused _ => 0

/-- How many of the machine's next `n` steps are taken from a state with the property. -/
def countSteps (p : State → Bool) (n : Nat) (s : State) : Nat := countWith step p n s

/-- A HOST access to the bus on which the register window lies. -/
def Event.isAccess : Event → Bool
  | .read _ _ => true
  | .write _ _ _ => true
  | .seq => false
  | .ovf => false
  | .storeRead _ => false
  | .storeWrite _ _ => false
  | .reset _ => false
  | .powerCycle _ _ => false

/-- What HOST may not do in phase BOOT: an access to the bus of the register window or to the seed store
(`70_reset_and_hazards.md` R251). -/
def Event.waitsForBoot : Event → Bool
  | .read _ _ => true
  | .write _ _ _ => true
  | .storeRead _ => true
  | .storeWrite _ _ => true
  | .seq => false
  | .ovf => false
  | .reset _ => false
  | .powerCycle _ _ => false

/-- An overflow event or a bus access: what may happen while SEQ runs, without a reset and without touching the store. -/
def Event.passive (e : Event) : Bool := decide (e = .ovf) || e.isAccess

/-- An event that resets the block. -/
def Event.resets : Event → Bool
  | .reset _ => true
  | .powerCycle _ _ => true
  | .seq => false
  | .ovf => false
  | .read _ _ => false
  | .write _ _ _ => false
  | .storeRead _ => false
  | .storeWrite _ _ => false

/-- All of the state but what a bus access can change in RUN mode: ARG, ERR, CAUSE, the response, and what is still to come. -/
def State.pipeline (s : State) : State := { s with arg := 0, err := false, cause := 0, resp := .none, agenda := [] }

/-- `n` LFSR steps. -/
def lfsrIter : Nat → Word → Word
  | 0, s => s
  | n + 1, s => lfsrIter n (lfsrStep s).1

/-- The bit that the LFSR emits at step `k`, counted from 0. -/
def lfsrBit (s : Word) (k : Nat) : Nat := (lfsrStep (lfsrIter k s)).2.toNat

/-- The delay terms after a sequence of filter invocations. -/
def filterRun (F : FilterCfg) : Int × Int → List Int → Int × Int
  | z, [] => z
  | z, x :: xs => filterRun F (filter F z x).1 xs

end Sys2Proof.Machine
end

