-- ==== Sys2Proof/Certificates/Slice0/Obligations.lean ====
section
/-! DEFINITION. The statements for the provers. In a statement about `step`, `agenda`, `resp` and `port` are the model's own carriers of
HOST's actions, HOST's responses and the duty port's history (notes/assumptions/7.md, 10.md, 16.md); a statement for every agenda is a
statement for every order of the agents. -/

open Sys2Proof Sys2Proof.Machine

/-! ### The nine commands: results and frames. Each equation gives the whole next state. -/

/-- `45_command_port.md` R192: NOP, word 0x00000000, leaves every register unchanged. -/
def Obligations.NopChangesNothing : Prop :=
  ∀ s : State, s.mode = .test → exec .nop s = .next s ∧ cmdWrite 0x00000000 s = .next s

/-- R110, R193: STEP shifts the LFSR right by one, applies the feedback constant when bit 0 was 1, and shows that bit in RES. -/
def Obligations.StepCommandShiftsTheLfsr : Prop :=
  ∀ s : State, s.mode = .test →
    exec .step s = .next
      { s with
        lfsr := if s.lfsr.getLsbD 0 then (s.lfsr >>> 1) ^^^ 0xA3AC183C else s.lfsr >>> 1
        res := if s.lfsr.getLsbD 0 then 1 else 0 } ∧
    cmdWrite 0x00001000 s = exec .step s

/-- R112, R194: DRAW n, for n <= 8, takes n LFSR steps and packs the n emitted bits most significant first; for n > 8 it is illegal,
cause 4, and the LFSR does not step. -/
def Obligations.DrawPacksBitsMostSignificantFirst : Prop :=
  ∀ (n : BitVec 4) (s : State), s.mode = .test →
    (n.toNat ≤ 8 → exec (.draw n) s = .next
      { s with
        lfsr := lfsrIter n.toNat s.lfsr
        res := BitVec.ofNat 32 (∑ k ∈ Finset.range n.toNat, lfsrBit s.lfsr k * 2 ^ (n.toNat - 1 - k)) }) ∧
    (8 < n.toNat → exec (.draw n) s = .next { s with err := true, cause := 4 }) ∧
    cmdWrite (0x00002000 + 256 * n.setWidth 32) s = exec (.draw n) s

/-- R130, R195: NORMAL takes 24 LFSR steps; its sample is the 8-bit wrap of 16 times the count of set bits among the first 16, less 128,
plus the next four bits as a number, less the last four; RES gets it sign-extended. -/
def Obligations.NormalCommandSumsBitsAndWraps : Prop :=
  ∀ s : State, s.mode = .test →
    let ones : Nat := ∑ k ∈ Finset.range 16, lfsrBit s.lfsr k
    let a : Nat := ∑ k ∈ Finset.range 4, lfsrBit s.lfsr (16 + k) * 2 ^ (3 - k)
    let c : Nat := ∑ k ∈ Finset.range 4, lfsrBit s.lfsr (20 + k) * 2 ^ (3 - k)
    exec .normal s = .next
      { s with
        lfsr := lfsrIter 24 s.lfsr
        res := (BitVec.ofInt 8 (16 * (ones : Int) - 128 + a - c)).signExtend 32 } ∧
    cmdWrite 0x00003000 s = exec .normal s

/-- R142, R143, R196: FILTER x in bit-vector terms. Products are exact, shifts are floor divisions by a power of two, the accumulator
and both delay terms are 32 bits, the new Z1 reads the old Z2, and RES gets the 16-bit output sign-extended. -/
def Obligations.FilterCommandFollowsItsRecord : Prop :=
  ∀ (x : BitVec 8) (s : State), s.mode = .test →
    let F := s.cfg.filter
    let X := x.toInt
    let Y := (BitVec.ofInt 32 (F.cIn * X / 2 ^ F.sIn) + s.z1).toInt
    exec (.filter x) s = .next
      { s with
        z1 := BitVec.ofInt 32 (F.c1 * Y / 2 ^ F.s1 + s.z2.toInt / 2 ^ F.sZ2 + F.cB1 * X / 2 ^ F.sB1)
        z2 := BitVec.ofInt 32 (F.c2 * Y / 2 ^ F.s2 + F.cB2 * X / 2 ^ F.sB2)
        res := (BitVec.ofInt 16 (Y / 2 ^ F.sOut)).signExtend 32 } ∧
    cmdWrite (0x00004000 + x.setWidth 32) s = exec (.filter x) s

/-- R160, R197: MAP reads `ARG[15:0]` as a signed value, divides it by MAP_DIV rounding down, adds the baseline 255 - WIND, clamps to
[0, 255], and writes RES only; the upper half of ARG does not matter. -/
def Obligations.MapCommandClampsIntoRes : Prop :=
  ∀ s : State, s.mode = .test →
    exec .map s = .next
      { s with
        res := BitVec.ofNat 32
          (max 0 (min 255 (255 - (s.cfg.wind : Int) + (s.arg.extractLsb' 0 16).toInt / (s.cfg.mapDiv : Int)))).toNat } ∧
    cmdWrite 0x00005000 s = exec .map s

/-- R173, R198: UPDATE draws a sample, filters it, maps the output and writes the duty port once; TICK and PHASE do not change. -/
def Obligations.UpdateCommandRunsThePipeline : Prop :=
  ∀ s : State, s.mode = .test →
    let n := normal s.lfsr
    let f := filter s.cfg.filter (s.z1.toInt, s.z2.toInt) n.2
    let d := BitVec.ofInt 8 (intensity s.cfg f.2)
    exec .update s = .next
      { s with
        lfsr := n.1
        z1 := BitVec.ofInt 32 f.1.1
        z2 := BitVec.ofInt 32 f.1.2
        duty := d
        port := d :: s.port
        res := d.setWidth 32 } ∧
    cmdWrite 0x00006000 s = exec .update s

/-- R173, R198: UPDATE is NORMAL, then FILTER of its sample, then MAP of that output, with the duty written to the port and ARG kept. -/
def Obligations.UpdateIsNormalThenFilterThenMap : Prop :=
  ∀ s s1 s2 s3 : State, s.mode = .test → exec .normal s = .next s1 → exec (.filter (s1.res.extractLsb' 0 8)) s1 = .next s2 →
    exec .map { s2 with arg := s2.res } = .next s3 →
    exec .update s = .next
      { s3 with arg := s.arg, duty := s3.res.extractLsb' 0 8, port := s3.res.extractLsb' 0 8 :: s.port }

/-- R170, R199: OVF decrements CNT; where CNT was 1 it reloads it and sets TICK. RES does not change. CNT is never 0 (R27). -/
def Obligations.OvfCommandCountsDown : Prop :=
  ∀ s : State, s.mode = .test → s.cnt ≠ 0 →
    exec .ovf s = .next
      (if s.cnt = 1 then { s with cnt := BitVec.ofNat 16 s.cfg.reload, tick := true } else { s with cnt := s.cnt - 1 }) ∧
    cmdWrite 0x00007000 s = exec .ovf s

/-- R200: TAKE shows the tick flag in RES and clears it. -/
def Obligations.TakeCommandObservesAndClears : Prop :=
  ∀ s : State, s.mode = .test →
    exec .take s = .next { s with res := if s.tick then 1 else 0, tick := false } ∧ cmdWrite 0x00008000 s = exec .take s

/-- R190 with R193 to R200: what no command touches. Every command, in either mode, leaves every byte of the store, the configuration,
ARG, SEEDW, PHASE, MODE and the model's own agenda, response and free-value counter alone; and only UPDATE changes the duty latch and
the port. -/
def Obligations.CommandsLeaveTheRestAlone : Prop :=
  ∀ (i : Instr) (s t : State), exec i s = .next t →
    (∀ a, t.storeByte a = s.storeByte a) ∧ t.cfg = s.cfg ∧ t.arg = s.arg ∧ t.seedw = s.seedw ∧ t.phase = s.phase ∧
    t.mode = s.mode ∧ t.agenda = s.agenda ∧ t.resp = s.resp ∧ t.draws = s.draws ∧
    (i ≠ .update → t.duty = s.duty ∧ t.port = s.port) ∧
    (i ≠ .update → (∀ x, i ≠ .filter x) → t.z1 = s.z1 ∧ t.z2 = s.z2) ∧
    (i ≠ .ovf → t.cnt = s.cnt ∧ (i ≠ .take → t.tick = s.tick)) ∧
    (s.mode = .test → i.wf = true → t.err = s.err ∧ t.cause = s.cause)

/-! ### Decoding, illegal commands, and the step -/

/-- R191, R85: in RUN mode every CMD write, NOP's included, sets ERR with cause 1 and does nothing else. The second clause, that `exec`
of every command does the same, is the model's choice (log 15): in R190 `execute` is reached only after decoding, and R193 to R200 check
no mode. -/
def Obligations.RunModeMakesEveryCommandIllegal : Prop :=
  ∀ s : State, s.mode = .run →
    (∀ w : Word, cmdWrite w s = .next { s with err := true, cause := 1 }) ∧
    (∀ i : Instr, exec i s = .next { s with err := true, cause := 1 })

/-- R85: each illegal CMD write sets ERR and records the first cause that applies, and changes nothing else. The fields are read off
the number `w`. -/
def Obligations.IllegalWordRecordsTheFirstCause : Prop :=
  ∀ (w : Word) (s : State),
    let rsv := w.toNat / 65536
    let op := w.toNat / 4096 % 16
    let n := w.toNat / 256 % 16
    let imm := w.toNat % 256
    (s.mode = .run → cmdWrite w s = .next { s with err := true, cause := 1 }) ∧
    (s.mode = .test → rsv ≠ 0 → cmdWrite w s = .next { s with err := true, cause := 2 }) ∧
    (s.mode = .test → rsv = 0 → 9 ≤ op → cmdWrite w s = .next { s with err := true, cause := 3 }) ∧
    (s.mode = .test → rsv = 0 → op = 2 → 8 < n → cmdWrite w s = .next { s with err := true, cause := 4 }) ∧
    (s.mode = .test → rsv = 0 → op < 9 → ¬(op = 2 ∧ 8 < n) → (op ≠ 2 ∧ n ≠ 0) ∨ (op ≠ 4 ∧ imm ≠ 0) →
      cmdWrite w s = .next { s with err := true, cause := 5 })

/-- R84: the words of the opcode map, written out, decode to their commands. -/
def Obligations.OpcodeMapWordsDecode : Prop :=
  decode .test 0b00000000000000000000000000000000 = .op .nop ∧ decode .test 0b00000000000000000001000000000000 = .op .step ∧
  decode .test 0b00000000000000000010100000000000 = .op (.draw 8) ∧ decode .test 0b00000000000000000011000000000000 = .op .normal ∧
  decode .test 0b00000000000000000100000010000000 = .op (.filter 0x80) ∧
  decode .test 0b00000000000000000101000000000000 = .op .map ∧ decode .test 0b00000000000000000110000000000000 = .op .update ∧
  decode .test 0b00000000000000000111000000000000 = .op .ovf ∧ decode .test 0b00000000000000001000000000000000 = .op .take

/-- R84, R86: every well-formed command decodes back from its word, with every operand at every value. -/
def Obligations.DecodeOfEncodeIsTheCommand : Prop :=
  ∀ i : Instr, i.wf = true → decode .test (encode i) = .op i

/-- R84, R86: a 32-bit word that decodes to a command is the word of that command and of no other, and the command is well formed. -/
def Obligations.DecodedWordIsItsEncoding : Prop :=
  ∀ (w : Word) (i : Instr), decode .test w = .op i → encode i = w ∧ i.wf = true

/-- R190, R63: when HOST's next action is a write of `w` to CMD, the step is `cmd_write(w)`, after the write has left the agenda and its
response is set (the model's own fields, logs 7 and 10): `exec` of `i` where `w` decodes to `i`, and ERR with the cause where it does
not decode. -/
def Obligations.StepRunsTheDecodedCommand : Prop :=
  ∀ (s : State) (rest : List Event) (w : Word), configValid s.cfg = true → s.phase ≠ .boot →
    s.agenda = .write .b4 s.cfg.winBase w :: rest →
    let s' := { s with agenda := rest, resp := .written }
    step s = cmdWrite w s' ∧ (∀ i, decode s.mode w = .op i → step s = exec i s') ∧
    (∀ c, decode s.mode w = .illegal c → step s = .next { s' with err := true, cause := causeCode c })

/-- The model's choice of how a command is placed (log 9): from every valid state, the step after `withFetchWord` runs the command that
the table word decodes to. -/
def Obligations.PlacedWordRunsNext : Prop :=
  ∀ (s : State) (w : Nat) (i : Instr), configValid s.cfg = true → decodeTableWord 32 w = some i →
    step (s.withFetchWord 32 w) = exec i { s with phase := .idle, mode := .test, resp := .written }

/-! ### The invariant -/

/-- R24, R27, R29, R31, R34, R53, R173, R256: every step keeps the machine's invariant. -/
def Obligations.EveryStepKeepsTheInvariant : Prop :=
  ∀ s t : State, s.Inv → step s = .next t → t.Inv

/-- The reset state meets the invariant, in the reset instance (logs 2 to 6). -/
def Obligations.ResetMeetsTheInvariant : Prop := State.reset.Inv

/-! ### The component functions -/

/-- R111: `lfsr_step` keeps non-zero states non-zero, and it is a bijection whose inverse is the one the rule gives. -/
def Obligations.LfsrStepIsABijection : Prop :=
  let back : Word → Word := fun u => if u.getLsbD 31 then ((u ^^^ 0xA3AC183C) <<< 1) + 1 else u <<< 1
  (∀ s : Word, s ≠ 0 → (lfsrStep s).1 ≠ 0) ∧ (∀ s : Word, back (lfsrStep s).1 = s) ∧ (∀ u : Word, (lfsrStep (back u)).1 = u) ∧
  (∀ s : Word, (lfsrStep s).1.getLsbD 31 = (lfsrStep s).2)

/-- R162: the mapper's result lies in [0, 255] and does not decrease when its input grows. -/
def Obligations.MapperIsBoundedAndMonotone : Prop :=
  ∀ (c : Config) (y y' : Int), 0 ≤ intensity c y ∧ intensity c y ≤ 255 ∧ (y ≤ y' → intensity c y ≤ intensity c y')

/-- R147 (a): for every filter record, a zero input to zero delay terms gives a zero output and leaves them zero, so it does forever. -/
def Obligations.ZeroFilterStateIsAnEquilibrium : Prop :=
  ∀ s : State, s.mode = .test → s.z1 = 0 → s.z2 = 0 → exec (.filter 0) s = .next { s with res := 0 }

/-- R144: with BW60, from the zero state, no input sequence makes the accumulator or a delay term leave the bounds 2^23, 2^23 and 2^26
that the rule gives, so nothing ever wraps. -/
def Obligations.DefaultFilterNeverOverflows : Prop :=
  ∀ xs : List Int, (∀ x ∈ xs, -128 ≤ x ∧ x ≤ 127) →
    let z := filterRun FilterCfg.bw60 (0, 0) xs
    |z.1| < 2 ^ 23 ∧ |z.2| < 2 ^ 26 ∧
    ∀ x : Int, -128 ≤ x → x ≤ 127 →
      |4400 * x + z.1| < 2 ^ 23 ∧ accumulator FilterCfg.bw60 z.1 x = 4400 * x + z.1 ∧
      (filter FilterCfg.bw60 z x).2 = (4400 * x + z.1) / 256

/-- R52: the seed word is the four bytes at SEED_ADDR, little-endian; a seed word written is read back, and no other byte of the store
changes. -/
def Obligations.SeedWordReadsBack : Prop :=
  ∀ (s : State) (v : Word), Memory.wf s = true →
    let st := fun i => (s.storeByte (s.cfg.seedAddr + i)).toNat
    s.seedRead.toNat = st 0 + 2 ^ 8 * st 1 + 2 ^ 16 * st 2 + 2 ^ 24 * st 3 ∧
    (s.seedWrite v).seedRead = v ∧
    (∀ i, i < 4 → ((s.seedWrite v).storeByte (s.cfg.seedAddr + i)).toNat = v.toNat / 2 ^ (8 * i) % 256) ∧
    (∀ a, (a < s.cfg.seedAddr ∨ s.cfg.seedAddr + 4 ≤ a) → (s.seedWrite v).storeByte a = s.storeByte a)

/-! ### Reset and boot -/

/-- R113, R171: the boot step reads the seed word, adjusts it under the instance's policy to a non-zero seed, writes it back
little-endian, and loads LFSR and SEEDW with it; the phase becomes IDLE and nothing else changes, no other byte of the store included.
In phase BOOT it is SEQ's turn, and the step in front of a window access, which waits (R251). Two forms are the model's choice: the step
of a machine with an empty agenda (log 8), and the step in front of a store access, which the model makes wait (log 12), where R251 says
only that HOST makes none. -/
def Obligations.BootStepAdjustsAndSavesTheSeed : Prop :=
  ∀ (s : State) (left : List Event), configValid s.cfg = true → Memory.wf s = true → s.phase = .boot →
    (s.agenda = .seq :: left ∨ (s.agenda = left ∧ ∀ e ∈ left.head?, e.waitsForBoot = true)) →
    let st := fun i => (s.storeByte (s.cfg.seedAddr + i)).toNat
    let v : Word := BitVec.ofNat 32 (st 0 + 2 ^ 8 * st 1 + 2 ^ 16 * st 2 + 2 ^ 24 * st 3)
    let s0 : Word := match s.cfg.seedAdvance with
      | .always => if v = 0xFFFFFFFF then 1 else v + 1
      | .ifZero => if v = 0 then 1 else v
    ∃ t, step s = .next t ∧ t = { s with lfsr := s0, seedw := s0, phase := .idle, agenda := left, store := t.store } ∧ s0 ≠ 0 ∧
      (∀ i, i < 4 → (t.storeByte (s.cfg.seedAddr + i)).toNat = s0.toNat / 2 ^ (8 * i) % 256) ∧
      (∀ a, (a < s.cfg.seedAddr ∨ s.cfg.seedAddr + 4 ≤ a) → t.storeByte a = s.storeByte a)

/-- R114: two resets in a row, with no other write to the store, start from consecutive non-zero seeds under ALWAYS, and from the same
seed under IF_ZERO. -/
def Obligations.ConsecutiveBootsAdvanceTheSeed : Prop :=
  ∀ (s : State) (rest : List Event) (a b : Bool), configValid s.cfg = true → Memory.wf s = true →
    s.agenda = .reset a :: .seq :: .reset b :: .seq :: rest →
    ∃ t u, runFor 2 s = .next t ∧ runFor 4 s = .next u ∧ u.seedw = u.lfsr ∧
      (s.cfg.seedAdvance = .always → u.lfsr = if t.lfsr = 0xFFFFFFFF then 1 else t.lfsr + 1) ∧
      (s.cfg.seedAdvance = .ifZero → u.lfsr = t.lfsr)

/-- R34, R250: a reset, in any phase and either mode, gives every register that R34 gives a value that value, samples the strap, and
touches neither the store nor the port; power-on is a reset (one that cuts the boot write is TornBootWriteMixesBytes). LFSR and SEEDW are
unspecified and nothing is said of them. -/
def Obligations.ResetSetsEveryRegister : Prop :=
  ∀ (s : State) (e : Event) (rest : List Event) (test : Bool), configValid s.cfg = true →
    (e = .reset test ∨ ∃ torn, e = .powerCycle test torn) → s.agenda = e :: rest →
    ∃ t, step s = .next t ∧ t.z1 = 0 ∧ t.z2 = 0 ∧ t.tick = false ∧ t.cnt.toNat = s.cfg.reload ∧ t.phase = .boot ∧
      t.duty = s.cfg.dutyReset ∧ (t.mode = .test ↔ test = true) ∧ t.err = false ∧ t.cause = 0 ∧ t.arg = 0 ∧ t.res = 0 ∧
      t.cfg = s.cfg ∧ (e = .reset test ∨ s.phase ≠ .boot → ∀ a, t.storeByte a = s.storeByte a) ∧ t.port = s.port ∧
      t.resp = s.resp ∧ t.agenda = rest

/-- R251: in phase BOOT an overflow event is lost, and a window access waits: the step is the boot step, exactly the one that SEQ's turn
would take, and the access is still to come. HOST makes no store access in that phase: in the model one waits likewise (log 12). -/
def Obligations.BootComesBeforeEverythingElse : Prop :=
  ∀ s : State, configValid s.cfg = true → s.phase = .boot →
    (∀ rest, s.agenda = .ovf :: rest → step s = .next { s with agenda := rest }) ∧
    (∀ e rest, s.agenda = e :: rest → e.waitsForBoot = true →
      ∃ u, step { s with agenda := .seq :: s.agenda } = .next u ∧ step s = .next { u with agenda := s.agenda } ∧
        u.phase = .idle ∧ u.resp = s.resp ∧ u.lfsr = u.seedw ∧ u.lfsr ≠ 0)

/-- R54, I4 (the model's form, log 17): power lost in phase BOOT leaves each byte of the seed word old or new, as the event says, and
every other byte as it was; the block is reset. -/
def Obligations.TornBootWriteMixesBytes : Prop :=
  ∀ (s : State) (rest : List Event) (test : Bool) (torn : BitVec 4), configValid s.cfg = true → Memory.wf s = true →
    s.phase = .boot → s.agenda = .powerCycle test torn :: rest →
    ∃ t u, step s = .next t ∧ step { s with agenda := [] } = .next u ∧ t.phase = .boot ∧ t.agenda = rest ∧
      (∀ i, i < 4 → t.storeByte (s.cfg.seedAddr + i) =
        if torn.getLsbD i then u.storeByte (s.cfg.seedAddr + i) else s.storeByte (s.cfg.seedAddr + i)) ∧
      (∀ a, (a < s.cfg.seedAddr ∨ s.cfg.seedAddr + 4 ≤ a) → t.storeByte a = s.storeByte a)

/-- R9, R53: a configuration that breaks one of R9's bounds, or whose seed word does not lie inside the store, has no step. -/
def Obligations.InvalidConfigurationHasNoStep : Prop :=
  ∀ s : State,
    let c := s.cfg
    let F := c.filter
    ¬((1 ≤ c.reload ∧ c.reload ≤ 65535) ∧ c.wind ≤ 255 ∧ (1 ≤ c.mapDiv ∧ c.mapDiv ≤ 32767) ∧
      (∀ k ∈ [F.cIn, F.c1, F.c2, F.cB1, F.cB2], -32768 ≤ k ∧ k ≤ 32767) ∧
      (∀ k ∈ [F.sIn, F.s1, F.sZ2, F.s2, F.sB1, F.sB2, F.sOut], k ≤ 31) ∧ c.seedAddr + 4 ≤ c.storeSize) →
    step s = .refused .invalidConfig

/-- The converse, with the model's further conditions (log 18): a configuration within R9's bounds, with the seed inside the store (R53)
and the rates and the window base in the ranges of R8, is never refused; and it only ever faults on HOST's access to a store byte that
does not exist (log 19). -/
def Obligations.ValidConfigurationIsNeverRefused : Prop :=
  ∀ s : State,
    let c := s.cfg
    let F := c.filter
    (1 ≤ c.reload ∧ c.reload ≤ 65535) ∧ c.wind ≤ 255 ∧ (1 ≤ c.mapDiv ∧ c.mapDiv ≤ 32767) ∧
      (∀ k ∈ [F.cIn, F.c1, F.c2, F.cB1, F.cB2], -32768 ≤ k ∧ k ≤ 32767) ∧
      (∀ k ∈ [F.sIn, F.s1, F.sZ2, F.s2, F.sB1, F.sB2, F.sOut], k ≤ 31) →
    c.seedAddr + 4 ≤ c.storeSize → c.winBase % 64 = 0 → 1 ≤ c.updateRate → 1 ≤ c.ovfRate.num → 1 ≤ c.ovfRate.den →
    (∃ t, step s = .next t) ∨
    (∃ a, c.storeSize ≤ a ∧ step s = .fault (.noStoreByte a) ∧
      (s.agenda.head? = some (.storeRead a) ∨ ∃ v, s.agenda.head? = some (.storeWrite a v)))

/-! ### The scheduler -/

/-- R170: TMR's step in RUN mode after the boot step decrements CNT, and on expiry reloads it and sets TICK; it touches nothing else.
In TEST mode, and before the boot step, the event has no effect. CNT is never 0 (R27). -/
def Obligations.OverflowStepCountsDown : Prop :=
  ∀ (s : State) (rest : List Event), configValid s.cfg = true → s.agenda = .ovf :: rest → s.cnt ≠ 0 →
    (s.mode = .run ∧ s.phase ≠ .boot → step s = .next
      (if s.cnt = 1 then { s with agenda := rest, cnt := BitVec.ofNat 16 s.cfg.reload, tick := true }
       else { s with agenda := rest, cnt := s.cnt - 1 })) ∧
    (s.mode = .test ∨ s.phase = .boot → step s = .next { s with agenda := rest })

/-- R172: with a tick pending in IDLE, SEQ's turn clears it and enters UPDATING, in one step. -/
def Obligations.ObserveAndClearIsOneStep : Prop :=
  ∀ (s : State) (rest : List Event), configValid s.cfg = true → s.agenda = .seq :: rest → s.mode = .run → s.phase = .idle →
    s.tick = true → step s = .next { s with agenda := rest, tick := false, phase := .updating }

/-- R173: in UPDATING, SEQ's turn runs the whole pipeline, writes the duty port once and returns to IDLE; TICK and CNT are untouched. -/
def Obligations.UpdateCycleIsOneStep : Prop :=
  ∀ (s : State) (rest : List Event), configValid s.cfg = true → s.agenda = .seq :: rest → s.mode = .run → s.phase = .updating →
    let n := normal s.lfsr
    let f := filter s.cfg.filter (s.z1.toInt, s.z2.toInt) n.2
    let d := BitVec.ofInt 8 (intensity s.cfg f.2)
    step s = .next
      { s with
        agenda := rest
        lfsr := n.1
        z1 := BitVec.ofInt 32 f.1.1
        z2 := BitVec.ofInt 32 f.1.2
        duty := d
        port := d :: s.port
        phase := .idle }

/-- R174: in RUN mode, IDLE, no tick pending, SEQ has no step: its turn changes nothing, and a machine whose environment does nothing
stays as it is. The wait ends exactly when an expiry sets TICK. -/
def Obligations.SequencerWaitsForATick : Prop :=
  ∀ s : State, configValid s.cfg = true → s.mode = .run → s.phase = .idle → s.tick = false →
    (s.agenda = [] → step s = .next s) ∧ (∀ rest, s.agenda = .seq :: rest → step s = .next { s with agenda := rest }) ∧
    (∀ t, step s = .next t → (∀ e ∈ s.agenda.head?, e.resets = false) →
      t.phase = .idle ∧ (t.tick = true ↔ s.isExpiry = true))

/-- R175: in TEST mode after the boot step, neither SEQ's turn nor an overflow event has any effect, and until a reset the phase stays IDLE
whatever HOST does. -/
def Obligations.TestModeStopsSchedulerAndTimer : Prop :=
  ∀ s : State, configValid s.cfg = true → s.mode = .test → s.phase = .idle →
    (s.agenda = [] → step s = .next s) ∧
    (∀ rest, s.agenda = .seq :: rest ∨ s.agenda = .ovf :: rest → step s = .next { s with agenda := rest }) ∧
    (∀ t, step s = .next t → (∀ e ∈ s.agenda.head?, e.resets = false) → t.phase = .idle ∧ t.mode = .test)

/-- R81: UPDATE, OVF and TAKE run the same rules as the update cycle, the overflow step and the observe-and-clear. -/
def Obligations.TestCommandsAreTheSchedulersTwins : Prop :=
  ∀ (s : State) (rest : List Event), configValid s.cfg = true → s.mode = .run → s.phase ≠ .boot →
    (∀ u, s.agenda = .seq :: rest → s.phase = .updating → exec .update { s with mode := .test } = .next u →
      step s = .next { u with mode := .run, phase := .idle, res := s.res, agenda := rest }) ∧
    (∀ u, s.agenda = .ovf :: rest → exec .ovf { s with mode := .test } = .next u →
      step s = .next { u with mode := .run, agenda := rest }) ∧
    (∀ u, s.agenda = .seq :: rest → s.phase = .idle → s.tick = true → exec .take { s with mode := .test } = .next u →
      u.res = 1 ∧ step s = .next { u with mode := .run, phase := .updating, res := s.res, agenda := rest })

/-- R177: in RUN mode, with SEQ's turns and bus accesses anywhere between the overflow steps: from a counter that holds RELOAD, after
`k` overflow steps CNT is `RELOAD - k mod RELOAD`, the counter has expired exactly `k / RELOAD` times, and the next overflow step expires
exactly when its number `k + 1` is a multiple of RELOAD. Overflow steps alone change nothing but CNT and TICK. A reset in RUN mode and its
boot step leave such a counter. Where RELOAD is the default of R8, which the model does not force (log 24), the tick rate
OVF_RATE / RELOAD is at least UPDATE_RATE. -/
def Obligations.TickCadence : Prop :=
  ∀ s : State, configValid s.cfg = true →
    (∀ es rest : List Event, s.mode = .run → s.phase ≠ .boot → s.cnt.toNat = s.cfg.reload →
      (∀ e ∈ es, e = .seq ∨ e.passive = true) → s.agenda = es ++ rest →
      let k := es.count .ovf
      ∃ t, runFor es.length s = .next t ∧ t.agenda = rest ∧ t.cnt.toNat = s.cfg.reload - k % s.cfg.reload ∧
        countSteps State.isExpiry es.length s = k / s.cfg.reload ∧
        (rest.head? = some .ovf → (t.isExpiry = true ↔ (k + 1) % s.cfg.reload = 0)) ∧
        ((∀ e ∈ es, e = .ovf) →
          t = { s with agenda := rest, cnt := t.cnt, tick := s.tick || decide (s.cfg.reload ≤ k) })) ∧
    (∀ rest : List Event, s.agenda = .reset false :: .seq :: rest →
      ∃ t, runFor 2 s = .next t ∧ t.mode = .run ∧ t.phase = .idle ∧ t.cfg = s.cfg ∧ t.cnt.toNat = s.cfg.reload ∧ t.agenda = rest) ∧
    (s.cfg.reload = Config.defaultReload s.cfg.ovfRate s.cfg.updateRate →
      s.cfg.updateRate * (s.cfg.reload * s.cfg.ovfRate.den) ≤ s.cfg.ovfRate.num)

/-- R178 (a): over any run, of any length and with any order of events, the update cycles never outnumber the expiries. -/
def Obligations.UpdatesNeverOutnumberExpiries : Prop :=
  ∀ (n : Nat) (s : State), s.tick = false → s.phase ≠ .updating →
    countSteps State.isUpdate n s ≤ countSteps State.isExpiry n s

/-- R178 (b), (c): two tick periods with no SEQ turn between them give one update; with SEQ's two turns after each period they give
two. -/
def Obligations.MergedTicksGiveOneUpdate : Prop :=
  ∀ (s : State) (rest : List Event), configValid s.cfg = true → s.mode = .run → s.phase = .idle → s.tick = false →
    s.cnt.toNat = s.cfg.reload →
    (s.agenda = List.replicate (2 * s.cfg.reload) Event.ovf ++ (List.replicate 4 Event.seq ++ rest) →
      countSteps State.isUpdate (2 * s.cfg.reload + 4) s = 1) ∧
    (s.agenda = List.replicate s.cfg.reload Event.ovf ++ (List.replicate 2 Event.seq ++ (List.replicate s.cfg.reload Event.ovf ++
        (List.replicate 2 Event.seq ++ rest))) →
      countSteps State.isUpdate (2 * s.cfg.reload + 4) s = 2)

/-- R262: a pending tick is followed by exactly one update once SEQ has had two turns, whatever overflow events and window accesses fall
before and between them. -/
def Obligations.PendingTickLeadsToOneUpdate : Prop :=
  ∀ (s : State) (before between rest : List Event), configValid s.cfg = true → s.mode = .run → s.phase = .idle → s.tick = true →
    (∀ e ∈ before, e.passive = true) → (∀ e ∈ between, e.passive = true) →
    s.agenda = before ++ .seq :: (between ++ .seq :: rest) →
    ∃ t, runFor (before.length + between.length + 2) s = .next t ∧ t.agenda = rest ∧ t.phase = .idle ∧
      ∃ d, t.port = d :: s.port ∧ t.duty = d

/-- R224: an overflow step and an update cycle give the same state in either order. -/
def Obligations.OverflowCommutesWithUpdateCycle : Prop :=
  ∀ (s : State) (rest : List Event), configValid s.cfg = true → s.mode = .run → s.phase = .updating →
    ∃ t, runFor 2 { s with agenda := .ovf :: .seq :: rest } = .next t ∧ runFor 2 { s with agenda := .seq :: .ovf :: rest } = .next t

/-- R224: an expiry and an observe-and-clear, both enabled. If TMR goes first the two ticks become one; if SEQ goes first a tick stays
pending. -/
def Obligations.ExpiryAndObserveDoNotCommute : Prop :=
  ∀ (s : State) (rest : List Event), configValid s.cfg = true → s.mode = .run → s.phase = .idle → s.tick = true → s.cnt = 1 →
    let t := { s with agenda := rest, phase := .updating, cnt := BitVec.ofNat 16 s.cfg.reload }
    runFor 2 { s with agenda := .ovf :: .seq :: rest } = .next { t with tick := false } ∧
    runFor 2 { s with agenda := .seq :: .ovf :: rest } = .next { t with tick := true }

/-- R87: three turns are all that SEQ can use with no other agent between them: after them it waits. -/
def Obligations.ThreeTurnsReachTheWait : Prop :=
  ∀ (s : State) (rest : List Event), s.Inv → s.agenda = seqUntilWait ++ rest →
    ∃ t, runFor 3 s = .next t ∧ t.agenda = rest ∧ seqTurn t = t

/-! ### Rules of the whole machine -/

/-- R24, R115: after the boot step, a step that is no reset moves the LFSR only by `lfsr_step`: 24 times in an update cycle, as often as
the command says in a TEST-mode CMD write, and not at all otherwise. -/
def Obligations.LfsrMovesOnlyByItsStep : Prop :=
  (∀ (i : Instr) (s t : State), s.mode = .test → i.wf = true → exec i s = .next t →
    t.lfsr = lfsrIter
      (match i with
        | .step => 1
        | .draw n => n.toNat
        | .normal => 24
        | .update => 24
        | .nop | .filter _ | .map | .ovf | .take => 0) s.lfsr) ∧
  (∀ s t : State, step s = .next t → s.phase ≠ .boot → (∀ e ∈ s.agenda.head?, e.resets = false) →
    (s.isUpdate = true ∧ t.lfsr = lfsrIter 24 s.lfsr) ∨
    (s.isUpdate = false ∧ t.lfsr = s.lfsr) ∨
    (∃ w i rest, s.agenda = .write .b4 s.cfg.winBase w :: rest ∧ decode s.mode w = .op i ∧
      exec i { s with agenda := rest, resp := .written } = .next t))

/-- R21, R30: no step changes the configuration, and the mode changes only at a reset, to what the strap says. -/
def Obligations.ModeChangesOnlyAtReset : Prop :=
  ∀ s t : State, step s = .next t →
    t.cfg = s.cfg ∧ ((∀ e ∈ s.agenda.head?, e.resets = false) → t.mode = s.mode) ∧
    (∀ test rest, s.agenda = .reset test :: rest → t.mode = if test then .test else .run) ∧
    (∀ test torn rest, s.agenda = .powerCycle test torn :: rest → t.mode = if test then .test else .run)

/-- R51: the block writes the store in the boot step alone, and there only the seed word's bytes; HOST's own writes apart, no other step
changes a byte, a reset included. -/
def Obligations.StoreChangesOnlyAtBoot : Prop :=
  ∀ s t : State, step s = .next t →
    (s.phase ≠ .boot → (∀ a v rest, s.agenda ≠ .storeWrite a v :: rest) → ∀ a, t.storeByte a = s.storeByte a) ∧
    (s.phase = .boot → ∀ a, (a < s.cfg.seedAddr ∨ s.cfg.seedAddr + 4 ≤ a) → t.storeByte a = s.storeByte a) ∧
    (∀ test rest, s.agenda = .reset test :: rest → ∀ a, t.storeByte a = s.storeByte a)

/-- R31: an illegal CMD write sets ERR and records its cause, also when ERR is already 1; HOST's write of 1 to STATUS bit 3 clears both,
and so does a reset; nothing else changes either. In phase BOOT a write waits and changes neither. -/
def Obligations.ErrorFlagIsSticky : Prop :=
  ∀ s t : State, step s = .next t →
    ((∃ e ∈ s.agenda.head?, e.resets = true) → t.err = false ∧ t.cause = 0) ∧
    (∀ w c rest, s.phase ≠ .boot → s.agenda = .write .b4 s.cfg.winBase w :: rest → decode s.mode w = .illegal c →
      t.err = true ∧ t.cause = causeCode c) ∧
    (∀ v rest, s.phase ≠ .boot → s.agenda = .write .b4 (s.cfg.winBase + 0x0C) v :: rest → v.getLsbD 3 = true →
      t.err = false ∧ t.cause = 0) ∧
    ((∀ e ∈ s.agenda.head?, e.resets = false) →
      (t.err = s.err ∧ t.cause = s.cause) ∨
      (s.phase ≠ .boot ∧ ∃ w c rest, s.agenda = .write .b4 s.cfg.winBase w :: rest ∧ decode s.mode w = .illegal c) ∨
      (s.phase ≠ .boot ∧ ∃ v rest, s.agenda = .write .b4 (s.cfg.winBase + 0x0C) v :: rest ∧ v.getLsbD 3 = true))

/-- R29, R163: the duty latch changes only by reset or by a port write, and each port write drives exactly the value that the latch then
holds; one update cycle or one UPDATE command makes one write. -/
def Obligations.DutyLatchFollowsThePort : Prop :=
  ∀ s t : State, step s = .next t →
    (t.port = s.port ∧ ((∀ e ∈ s.agenda.head?, e.resets = false) → t.duty = s.duty)) ∨
    (t.port = t.duty :: s.port ∧
      (s.isUpdate = true ∨
       (s.mode = .test ∧ ∃ rest, s.agenda = .write .b4 s.cfg.winBase 0x00006000 :: rest)))

/-- R256: in RUN mode after the boot step, each register has its one writer: SEQ's update cycle for LFSR, Z1, Z2, DUTY; SEQ for PHASE; TMR
for CNT; TMR sets TICK and SEQ clears it; HOST's writes for ARG, ERR, CAUSE; and nobody writes RES and SEEDW. -/
def Obligations.RunModeRegistersHaveOneWriter : Prop :=
  ∀ s t : State, step s = .next t → s.mode = .run → s.phase ≠ .boot → (∀ e ∈ s.agenda.head?, e.resets = false) →
    t.res = s.res ∧ t.seedw = s.seedw ∧
    (s.isUpdate = false → t.lfsr = s.lfsr ∧ t.z1 = s.z1 ∧ t.z2 = s.z2 ∧ t.duty = s.duty ∧ t.port = s.port) ∧
    (s.isSeqTurn = false → t.phase = s.phase ∧ (s.tick = true → t.tick = true)) ∧
    (s.agenda.head? ≠ some .ovf → t.cnt = s.cnt ∧ (s.tick = false → t.tick = false)) ∧
    ((∀ w a v, s.agenda.head? ≠ some (.write w a v)) → t.arg = s.arg ∧ t.err = s.err ∧ t.cause = s.cause)

/-- R191: in RUN mode a CMD write sets ERR with cause 1 and does nothing else, and no bus access of HOST changes anything of the block but
ARG, ERR and CAUSE: ARG by a write to ARG, ERR and CAUSE by a CMD write, which is illegal, or by a clear through STATUS bit 3. -/
def Obligations.RunModeHostOnlyObserves : Prop :=
  ∀ (s : State) (e : Event) (rest : List Event), configValid s.cfg = true → s.mode = .run → s.phase ≠ .boot →
    s.agenda = e :: rest → e.isAccess = true →
    (∀ w, e = .write .b4 s.cfg.winBase w →
      step s = .next { s with agenda := rest, resp := .written, err := true, cause := 1 }) ∧
    ∃ t, step s = .next t ∧ t = { s with agenda := rest, resp := t.resp, arg := t.arg, err := t.err, cause := t.cause } ∧
      (t.arg = s.arg ∨ e = .write .b4 (s.cfg.winBase + 0x04) t.arg) ∧
      ((t.err = s.err ∧ t.cause = s.cause) ∨
       ((∃ w, e = .write .b4 s.cfg.winBase w) ∧ t.err = true ∧ t.cause = 1) ∨
       ((∃ v, e = .write .b4 (s.cfg.winBase + 0x0C) v ∧ v.getLsbD 3 = true) ∧ t.err = false ∧ t.cause = 0))

/-- R191, R62: in RUN mode HOST's bus accesses do not disturb the machine: leaving all of them out of a run changes nothing but ARG,
ERR, CAUSE and HOST's responses. -/
def Obligations.RunModeAccessesDoNotInterfere : Prop :=
  ∀ (s : State) (es : List Event), configValid s.cfg = true → s.mode = .run → s.phase ≠ .boot →
    (∀ e ∈ es, e = .seq ∨ e.passive = true) →
    let es' := es.filter (fun e => !e.isAccess)
    ∃ t t', runFor es.length { s with agenda := es } = .next t ∧ runFor es'.length { s with agenda := es' } = .next t' ∧
      t.pipeline = t'.pipeline

/-! ### The register window -/

/-- R201, with the register table of R33: a legal read of any of the sixteen registers answers its value and changes nothing of the
block. -/
def Obligations.WindowReadsShowTheRegisters : Prop :=
  ∀ (s : State) (rest : List Event) (o : Nat) (v : Word), configValid s.cfg = true → s.phase ≠ .boot →
    (o, v) ∈ [(0x00, 0), (0x04, s.arg), (0x08, s.res),
      (0x0C, BitVec.ofNat 32 ((if s.mode = .test then 1 else 0) + (if s.tick then 2 else 0) +
        (if s.phase = .updating then 4 else 0) + (if s.err then 8 else 0) + 16 * s.cause.toNat)),
      (0x10, s.lfsr), (0x14, s.z1), (0x18, s.z2), (0x1C, s.cnt.setWidth 32), (0x20, s.duty.setWidth 32), (0x24, s.seedw),
      (0x28, BitVec.ofNat 32 (s.cfg.reload + 65536 * s.cfg.wind)), (0x2C, BitVec.ofNat 32 s.cfg.mapDiv),
      (0x30, 0), (0x34, 0), (0x38, 0), (0x3C, 0)] →
    s.agenda = .read .b4 (s.cfg.winBase + o) :: rest →
    step s = .next { s with agenda := rest, resp := .data v }

/-- R202: a legal write to a register other than CMD: ARG takes the value, STATUS bit 3 clears ERR and CAUSE, and every other write is
ignored. -/
def Obligations.WindowWritesOtherThanCmd : Prop :=
  ∀ (s : State) (rest : List Event) (o : Nat) (v : Word), configValid s.cfg = true → s.phase ≠ .boot →
    o % 4 = 0 → o ≠ 0 → o ≤ 0x3C → s.agenda = .write .b4 (s.cfg.winBase + o) v :: rest →
    step s = .next
      (if o = 0x04 then { s with agenda := rest, resp := .written, arg := v }
       else if o = 0x0C ∧ v.getLsbD 3 = true then { s with agenda := rest, resp := .written, err := false, cause := 0 }
       else { s with agenda := rest, resp := .written })

/-- R56, R221: an access that touches the window and is not 4 bytes wide, aligned and inside it gets the bus error, and neither reads nor
writes a register nor runs a command. -/
def Obligations.IllegalAccessGetsBusError : Prop :=
  ∀ (s : State) (rest : List Event) (w : Width) (a : Nat) (v : Word), configValid s.cfg = true → s.phase ≠ .boot →
    s.cfg.winBase < a + widthBytes w → a < s.cfg.winBase + 0x40 →
    ¬(w = .b4 ∧ a % 4 = 0 ∧ s.cfg.winBase ≤ a ∧ a ≤ s.cfg.winBase + 0x3C) →
    s.agenda = .read w a :: rest ∨ s.agenda = .write w a v :: rest →
    step s = .next { s with agenda := rest, resp := .busError a }

/-- R56 (the model's reading, log 11): an access that touches no byte of the window is no access of this block, which does not change. -/
def Obligations.AccessOutsideTheWindowIsNotTheBlocks : Prop :=
  ∀ (s : State) (rest : List Event) (w : Width) (a : Nat) (v : Word), configValid s.cfg = true → s.phase ≠ .boot →
    a + widthBytes w ≤ s.cfg.winBase ∨ s.cfg.winBase + 0x40 ≤ a →
    s.agenda = .read w a :: rest ∨ s.agenda = .write w a v :: rest →
    step s = .next { s with agenda := rest, resp := .notWindow a }

/-- R58: byte `k` of the window is byte `k mod 4`, little-endian, of the register whose read answers at offset `k - k mod 4`. -/
def Obligations.WindowIsLittleEndian : Prop :=
  ∀ (s : State) (rest : List Event) (k j : Nat), configValid s.cfg = true → s.phase ≠ .boot → k < 64 → j < 8 →
    s.agenda = .read .b4 (s.cfg.winBase + (k - k % 4)) :: rest →
    ∃ v, step s = .next { s with agenda := rest, resp := .data v } ∧ (windowByte k s).getLsbD j = v.getLsbD (8 * (k % 4) + j)

/-- R88: `MAPV y` is a write of y to ARG and of MAP's word to CMD, and leaves the intensity of y in RES; `CLRERR` is a write of 8 to
STATUS, and clears the error; `RES` is a read of RES. -/
def Obligations.PseudoOperationsExpand : Prop :=
  ∀ (s : State) (rest : List Event) (y : BitVec 16), configValid s.cfg = true → s.mode = .test → s.phase = .idle →
    mapv s.cfg y = [.write .b4 (s.cfg.winBase + 0x04) (BitVec.ofInt 32 y.toInt), .write .b4 s.cfg.winBase 0x00005000] ∧
    clrErr s.cfg = .write .b4 (s.cfg.winBase + 0x0C) 0x00000008 ∧ readRes s.cfg = .read .b4 (s.cfg.winBase + 0x08) ∧
    (s.agenda = mapv s.cfg y ++ rest →
      runFor 2 s = .next
        { s with agenda := rest, resp := .written, arg := y.signExtend 32,
                 res := BitVec.ofNat 32 (intensity s.cfg y.toInt).toNat }) ∧
    (s.agenda = clrErr s.cfg :: rest → step s = .next { s with agenda := rest, resp := .written, err := false, cause := 0 }) ∧
    (s.agenda = readRes s.cfg :: rest → step s = .next { s with agenda := rest, resp := .data s.res })
end

