-- ==== Sys2Proof/Laws/State.lean ====
section
/-! SUPPORT. What each named update of the state does to each field: one lemma per field per update, all true by rfl. -/

namespace Sys2Proof.Machine

variable (s : State)

/-! ### `State.setTick` -/

@[simp] theorem State.setTick_lfsr (b : Bool) : (s.setTick b).lfsr = s.lfsr := rfl
@[simp] theorem State.setTick_z1 (b : Bool) : (s.setTick b).z1 = s.z1 := rfl
@[simp] theorem State.setTick_z2 (b : Bool) : (s.setTick b).z2 = s.z2 := rfl
@[simp] theorem State.setTick_tick (b : Bool) : (s.setTick b).tick = b := rfl
@[simp] theorem State.setTick_cnt (b : Bool) : (s.setTick b).cnt = s.cnt := rfl
@[simp] theorem State.setTick_phase (b : Bool) : (s.setTick b).phase = s.phase := rfl
@[simp] theorem State.setTick_duty (b : Bool) : (s.setTick b).duty = s.duty := rfl
@[simp] theorem State.setTick_mode (b : Bool) : (s.setTick b).mode = s.mode := rfl
@[simp] theorem State.setTick_err (b : Bool) : (s.setTick b).err = s.err := rfl
@[simp] theorem State.setTick_cause (b : Bool) : (s.setTick b).cause = s.cause := rfl
@[simp] theorem State.setTick_arg (b : Bool) : (s.setTick b).arg = s.arg := rfl
@[simp] theorem State.setTick_res (b : Bool) : (s.setTick b).res = s.res := rfl
@[simp] theorem State.setTick_seedw (b : Bool) : (s.setTick b).seedw = s.seedw := rfl
@[simp] theorem State.setTick_cfg (b : Bool) : (s.setTick b).cfg = s.cfg := rfl
@[simp] theorem State.setTick_store (b : Bool) : (s.setTick b).store = s.store := rfl
@[simp] theorem State.setTick_agenda (b : Bool) : (s.setTick b).agenda = s.agenda := rfl
@[simp] theorem State.setTick_resp (b : Bool) : (s.setTick b).resp = s.resp := rfl
@[simp] theorem State.setTick_port (b : Bool) : (s.setTick b).port = s.port := rfl
@[simp] theorem State.setTick_draws (b : Bool) : (s.setTick b).draws = s.draws := rfl

/-! ### `State.setErr` -/

@[simp] theorem State.setErr_lfsr (c : Cause) : (s.setErr c).lfsr = s.lfsr := rfl
@[simp] theorem State.setErr_z1 (c : Cause) : (s.setErr c).z1 = s.z1 := rfl
@[simp] theorem State.setErr_z2 (c : Cause) : (s.setErr c).z2 = s.z2 := rfl
@[simp] theorem State.setErr_tick (c : Cause) : (s.setErr c).tick = s.tick := rfl
@[simp] theorem State.setErr_cnt (c : Cause) : (s.setErr c).cnt = s.cnt := rfl
@[simp] theorem State.setErr_phase (c : Cause) : (s.setErr c).phase = s.phase := rfl
@[simp] theorem State.setErr_duty (c : Cause) : (s.setErr c).duty = s.duty := rfl
@[simp] theorem State.setErr_mode (c : Cause) : (s.setErr c).mode = s.mode := rfl
@[simp] theorem State.setErr_err (c : Cause) : (s.setErr c).err = true := rfl
@[simp] theorem State.setErr_cause (c : Cause) : (s.setErr c).cause = causeCode c := rfl
@[simp] theorem State.setErr_arg (c : Cause) : (s.setErr c).arg = s.arg := rfl
@[simp] theorem State.setErr_res (c : Cause) : (s.setErr c).res = s.res := rfl
@[simp] theorem State.setErr_seedw (c : Cause) : (s.setErr c).seedw = s.seedw := rfl
@[simp] theorem State.setErr_cfg (c : Cause) : (s.setErr c).cfg = s.cfg := rfl
@[simp] theorem State.setErr_store (c : Cause) : (s.setErr c).store = s.store := rfl
@[simp] theorem State.setErr_agenda (c : Cause) : (s.setErr c).agenda = s.agenda := rfl
@[simp] theorem State.setErr_resp (c : Cause) : (s.setErr c).resp = s.resp := rfl
@[simp] theorem State.setErr_port (c : Cause) : (s.setErr c).port = s.port := rfl
@[simp] theorem State.setErr_draws (c : Cause) : (s.setErr c).draws = s.draws := rfl

/-! ### `State.clearErr` -/

@[simp] theorem State.clearErr_lfsr : s.clearErr.lfsr = s.lfsr := rfl
@[simp] theorem State.clearErr_z1 : s.clearErr.z1 = s.z1 := rfl
@[simp] theorem State.clearErr_z2 : s.clearErr.z2 = s.z2 := rfl
@[simp] theorem State.clearErr_tick : s.clearErr.tick = s.tick := rfl
@[simp] theorem State.clearErr_cnt : s.clearErr.cnt = s.cnt := rfl
@[simp] theorem State.clearErr_phase : s.clearErr.phase = s.phase := rfl
@[simp] theorem State.clearErr_duty : s.clearErr.duty = s.duty := rfl
@[simp] theorem State.clearErr_mode : s.clearErr.mode = s.mode := rfl
@[simp] theorem State.clearErr_err : s.clearErr.err = false := rfl
@[simp] theorem State.clearErr_cause : s.clearErr.cause = 0 := rfl
@[simp] theorem State.clearErr_arg : s.clearErr.arg = s.arg := rfl
@[simp] theorem State.clearErr_res : s.clearErr.res = s.res := rfl
@[simp] theorem State.clearErr_seedw : s.clearErr.seedw = s.seedw := rfl
@[simp] theorem State.clearErr_cfg : s.clearErr.cfg = s.cfg := rfl
@[simp] theorem State.clearErr_store : s.clearErr.store = s.store := rfl
@[simp] theorem State.clearErr_agenda : s.clearErr.agenda = s.agenda := rfl
@[simp] theorem State.clearErr_resp : s.clearErr.resp = s.resp := rfl
@[simp] theorem State.clearErr_port : s.clearErr.port = s.port := rfl
@[simp] theorem State.clearErr_draws : s.clearErr.draws = s.draws := rfl

/-! ### `State.setLfsr` -/

@[simp] theorem State.setLfsr_lfsr (w : Word) : (s.setLfsr w).lfsr = w := rfl
@[simp] theorem State.setLfsr_z1 (w : Word) : (s.setLfsr w).z1 = s.z1 := rfl
@[simp] theorem State.setLfsr_z2 (w : Word) : (s.setLfsr w).z2 = s.z2 := rfl
@[simp] theorem State.setLfsr_tick (w : Word) : (s.setLfsr w).tick = s.tick := rfl
@[simp] theorem State.setLfsr_cnt (w : Word) : (s.setLfsr w).cnt = s.cnt := rfl
@[simp] theorem State.setLfsr_phase (w : Word) : (s.setLfsr w).phase = s.phase := rfl
@[simp] theorem State.setLfsr_duty (w : Word) : (s.setLfsr w).duty = s.duty := rfl
@[simp] theorem State.setLfsr_mode (w : Word) : (s.setLfsr w).mode = s.mode := rfl
@[simp] theorem State.setLfsr_err (w : Word) : (s.setLfsr w).err = s.err := rfl
@[simp] theorem State.setLfsr_cause (w : Word) : (s.setLfsr w).cause = s.cause := rfl
@[simp] theorem State.setLfsr_arg (w : Word) : (s.setLfsr w).arg = s.arg := rfl
@[simp] theorem State.setLfsr_res (w : Word) : (s.setLfsr w).res = s.res := rfl
@[simp] theorem State.setLfsr_seedw (w : Word) : (s.setLfsr w).seedw = s.seedw := rfl
@[simp] theorem State.setLfsr_cfg (w : Word) : (s.setLfsr w).cfg = s.cfg := rfl
@[simp] theorem State.setLfsr_store (w : Word) : (s.setLfsr w).store = s.store := rfl
@[simp] theorem State.setLfsr_agenda (w : Word) : (s.setLfsr w).agenda = s.agenda := rfl
@[simp] theorem State.setLfsr_resp (w : Word) : (s.setLfsr w).resp = s.resp := rfl
@[simp] theorem State.setLfsr_port (w : Word) : (s.setLfsr w).port = s.port := rfl
@[simp] theorem State.setLfsr_draws (w : Word) : (s.setLfsr w).draws = s.draws := rfl

/-! ### `State.setDelays` -/

@[simp] theorem State.setDelays_lfsr (z : Int × Int) : (s.setDelays z).lfsr = s.lfsr := rfl
@[simp] theorem State.setDelays_z1 (z : Int × Int) : (s.setDelays z).z1 = BitVec.ofInt 32 z.1 := rfl
@[simp] theorem State.setDelays_z2 (z : Int × Int) : (s.setDelays z).z2 = BitVec.ofInt 32 z.2 := rfl
@[simp] theorem State.setDelays_tick (z : Int × Int) : (s.setDelays z).tick = s.tick := rfl
@[simp] theorem State.setDelays_cnt (z : Int × Int) : (s.setDelays z).cnt = s.cnt := rfl
@[simp] theorem State.setDelays_phase (z : Int × Int) : (s.setDelays z).phase = s.phase := rfl
@[simp] theorem State.setDelays_duty (z : Int × Int) : (s.setDelays z).duty = s.duty := rfl
@[simp] theorem State.setDelays_mode (z : Int × Int) : (s.setDelays z).mode = s.mode := rfl
@[simp] theorem State.setDelays_err (z : Int × Int) : (s.setDelays z).err = s.err := rfl
@[simp] theorem State.setDelays_cause (z : Int × Int) : (s.setDelays z).cause = s.cause := rfl
@[simp] theorem State.setDelays_arg (z : Int × Int) : (s.setDelays z).arg = s.arg := rfl
@[simp] theorem State.setDelays_res (z : Int × Int) : (s.setDelays z).res = s.res := rfl
@[simp] theorem State.setDelays_seedw (z : Int × Int) : (s.setDelays z).seedw = s.seedw := rfl
@[simp] theorem State.setDelays_cfg (z : Int × Int) : (s.setDelays z).cfg = s.cfg := rfl
@[simp] theorem State.setDelays_store (z : Int × Int) : (s.setDelays z).store = s.store := rfl
@[simp] theorem State.setDelays_agenda (z : Int × Int) : (s.setDelays z).agenda = s.agenda := rfl
@[simp] theorem State.setDelays_resp (z : Int × Int) : (s.setDelays z).resp = s.resp := rfl
@[simp] theorem State.setDelays_port (z : Int × Int) : (s.setDelays z).port = s.port := rfl
@[simp] theorem State.setDelays_draws (z : Int × Int) : (s.setDelays z).draws = s.draws := rfl

/-! ### `State.setCnt` -/

@[simp] theorem State.setCnt_lfsr (c : BitVec 16) : (s.setCnt c).lfsr = s.lfsr := rfl
@[simp] theorem State.setCnt_z1 (c : BitVec 16) : (s.setCnt c).z1 = s.z1 := rfl
@[simp] theorem State.setCnt_z2 (c : BitVec 16) : (s.setCnt c).z2 = s.z2 := rfl
@[simp] theorem State.setCnt_tick (c : BitVec 16) : (s.setCnt c).tick = s.tick := rfl
@[simp] theorem State.setCnt_cnt (c : BitVec 16) : (s.setCnt c).cnt = c := rfl
@[simp] theorem State.setCnt_phase (c : BitVec 16) : (s.setCnt c).phase = s.phase := rfl
@[simp] theorem State.setCnt_duty (c : BitVec 16) : (s.setCnt c).duty = s.duty := rfl
@[simp] theorem State.setCnt_mode (c : BitVec 16) : (s.setCnt c).mode = s.mode := rfl
@[simp] theorem State.setCnt_err (c : BitVec 16) : (s.setCnt c).err = s.err := rfl
@[simp] theorem State.setCnt_cause (c : BitVec 16) : (s.setCnt c).cause = s.cause := rfl
@[simp] theorem State.setCnt_arg (c : BitVec 16) : (s.setCnt c).arg = s.arg := rfl
@[simp] theorem State.setCnt_res (c : BitVec 16) : (s.setCnt c).res = s.res := rfl
@[simp] theorem State.setCnt_seedw (c : BitVec 16) : (s.setCnt c).seedw = s.seedw := rfl
@[simp] theorem State.setCnt_cfg (c : BitVec 16) : (s.setCnt c).cfg = s.cfg := rfl
@[simp] theorem State.setCnt_store (c : BitVec 16) : (s.setCnt c).store = s.store := rfl
@[simp] theorem State.setCnt_agenda (c : BitVec 16) : (s.setCnt c).agenda = s.agenda := rfl
@[simp] theorem State.setCnt_resp (c : BitVec 16) : (s.setCnt c).resp = s.resp := rfl
@[simp] theorem State.setCnt_port (c : BitVec 16) : (s.setCnt c).port = s.port := rfl
@[simp] theorem State.setCnt_draws (c : BitVec 16) : (s.setCnt c).draws = s.draws := rfl

/-! ### `State.setPhase` -/

@[simp] theorem State.setPhase_lfsr (p : Phase) : (s.setPhase p).lfsr = s.lfsr := rfl
@[simp] theorem State.setPhase_z1 (p : Phase) : (s.setPhase p).z1 = s.z1 := rfl
@[simp] theorem State.setPhase_z2 (p : Phase) : (s.setPhase p).z2 = s.z2 := rfl
@[simp] theorem State.setPhase_tick (p : Phase) : (s.setPhase p).tick = s.tick := rfl
@[simp] theorem State.setPhase_cnt (p : Phase) : (s.setPhase p).cnt = s.cnt := rfl
@[simp] theorem State.setPhase_phase (p : Phase) : (s.setPhase p).phase = p := rfl
@[simp] theorem State.setPhase_duty (p : Phase) : (s.setPhase p).duty = s.duty := rfl
@[simp] theorem State.setPhase_mode (p : Phase) : (s.setPhase p).mode = s.mode := rfl
@[simp] theorem State.setPhase_err (p : Phase) : (s.setPhase p).err = s.err := rfl
@[simp] theorem State.setPhase_cause (p : Phase) : (s.setPhase p).cause = s.cause := rfl
@[simp] theorem State.setPhase_arg (p : Phase) : (s.setPhase p).arg = s.arg := rfl
@[simp] theorem State.setPhase_res (p : Phase) : (s.setPhase p).res = s.res := rfl
@[simp] theorem State.setPhase_seedw (p : Phase) : (s.setPhase p).seedw = s.seedw := rfl
@[simp] theorem State.setPhase_cfg (p : Phase) : (s.setPhase p).cfg = s.cfg := rfl
@[simp] theorem State.setPhase_store (p : Phase) : (s.setPhase p).store = s.store := rfl
@[simp] theorem State.setPhase_agenda (p : Phase) : (s.setPhase p).agenda = s.agenda := rfl
@[simp] theorem State.setPhase_resp (p : Phase) : (s.setPhase p).resp = s.resp := rfl
@[simp] theorem State.setPhase_port (p : Phase) : (s.setPhase p).port = s.port := rfl
@[simp] theorem State.setPhase_draws (p : Phase) : (s.setPhase p).draws = s.draws := rfl

/-! ### `State.setArg` -/

@[simp] theorem State.setArg_lfsr (v : Word) : (s.setArg v).lfsr = s.lfsr := rfl
@[simp] theorem State.setArg_z1 (v : Word) : (s.setArg v).z1 = s.z1 := rfl
@[simp] theorem State.setArg_z2 (v : Word) : (s.setArg v).z2 = s.z2 := rfl
@[simp] theorem State.setArg_tick (v : Word) : (s.setArg v).tick = s.tick := rfl
@[simp] theorem State.setArg_cnt (v : Word) : (s.setArg v).cnt = s.cnt := rfl
@[simp] theorem State.setArg_phase (v : Word) : (s.setArg v).phase = s.phase := rfl
@[simp] theorem State.setArg_duty (v : Word) : (s.setArg v).duty = s.duty := rfl
@[simp] theorem State.setArg_mode (v : Word) : (s.setArg v).mode = s.mode := rfl
@[simp] theorem State.setArg_err (v : Word) : (s.setArg v).err = s.err := rfl
@[simp] theorem State.setArg_cause (v : Word) : (s.setArg v).cause = s.cause := rfl
@[simp] theorem State.setArg_arg (v : Word) : (s.setArg v).arg = v := rfl
@[simp] theorem State.setArg_res (v : Word) : (s.setArg v).res = s.res := rfl
@[simp] theorem State.setArg_seedw (v : Word) : (s.setArg v).seedw = s.seedw := rfl
@[simp] theorem State.setArg_cfg (v : Word) : (s.setArg v).cfg = s.cfg := rfl
@[simp] theorem State.setArg_store (v : Word) : (s.setArg v).store = s.store := rfl
@[simp] theorem State.setArg_agenda (v : Word) : (s.setArg v).agenda = s.agenda := rfl
@[simp] theorem State.setArg_resp (v : Word) : (s.setArg v).resp = s.resp := rfl
@[simp] theorem State.setArg_port (v : Word) : (s.setArg v).port = s.port := rfl
@[simp] theorem State.setArg_draws (v : Word) : (s.setArg v).draws = s.draws := rfl

/-! ### `State.setRes` -/

@[simp] theorem State.setRes_lfsr (v : Word) : (s.setRes v).lfsr = s.lfsr := rfl
@[simp] theorem State.setRes_z1 (v : Word) : (s.setRes v).z1 = s.z1 := rfl
@[simp] theorem State.setRes_z2 (v : Word) : (s.setRes v).z2 = s.z2 := rfl
@[simp] theorem State.setRes_tick (v : Word) : (s.setRes v).tick = s.tick := rfl
@[simp] theorem State.setRes_cnt (v : Word) : (s.setRes v).cnt = s.cnt := rfl
@[simp] theorem State.setRes_phase (v : Word) : (s.setRes v).phase = s.phase := rfl
@[simp] theorem State.setRes_duty (v : Word) : (s.setRes v).duty = s.duty := rfl
@[simp] theorem State.setRes_mode (v : Word) : (s.setRes v).mode = s.mode := rfl
@[simp] theorem State.setRes_err (v : Word) : (s.setRes v).err = s.err := rfl
@[simp] theorem State.setRes_cause (v : Word) : (s.setRes v).cause = s.cause := rfl
@[simp] theorem State.setRes_arg (v : Word) : (s.setRes v).arg = s.arg := rfl
@[simp] theorem State.setRes_res (v : Word) : (s.setRes v).res = v := rfl
@[simp] theorem State.setRes_seedw (v : Word) : (s.setRes v).seedw = s.seedw := rfl
@[simp] theorem State.setRes_cfg (v : Word) : (s.setRes v).cfg = s.cfg := rfl
@[simp] theorem State.setRes_store (v : Word) : (s.setRes v).store = s.store := rfl
@[simp] theorem State.setRes_agenda (v : Word) : (s.setRes v).agenda = s.agenda := rfl
@[simp] theorem State.setRes_resp (v : Word) : (s.setRes v).resp = s.resp := rfl
@[simp] theorem State.setRes_port (v : Word) : (s.setRes v).port = s.port := rfl
@[simp] theorem State.setRes_draws (v : Word) : (s.setRes v).draws = s.draws := rfl

/-! ### `State.dutyWrite` -/

@[simp] theorem State.dutyWrite_lfsr (d : Byte) : (s.dutyWrite d).lfsr = s.lfsr := rfl
@[simp] theorem State.dutyWrite_z1 (d : Byte) : (s.dutyWrite d).z1 = s.z1 := rfl
@[simp] theorem State.dutyWrite_z2 (d : Byte) : (s.dutyWrite d).z2 = s.z2 := rfl
@[simp] theorem State.dutyWrite_tick (d : Byte) : (s.dutyWrite d).tick = s.tick := rfl
@[simp] theorem State.dutyWrite_cnt (d : Byte) : (s.dutyWrite d).cnt = s.cnt := rfl
@[simp] theorem State.dutyWrite_phase (d : Byte) : (s.dutyWrite d).phase = s.phase := rfl
@[simp] theorem State.dutyWrite_duty (d : Byte) : (s.dutyWrite d).duty = d := rfl
@[simp] theorem State.dutyWrite_mode (d : Byte) : (s.dutyWrite d).mode = s.mode := rfl
@[simp] theorem State.dutyWrite_err (d : Byte) : (s.dutyWrite d).err = s.err := rfl
@[simp] theorem State.dutyWrite_cause (d : Byte) : (s.dutyWrite d).cause = s.cause := rfl
@[simp] theorem State.dutyWrite_arg (d : Byte) : (s.dutyWrite d).arg = s.arg := rfl
@[simp] theorem State.dutyWrite_res (d : Byte) : (s.dutyWrite d).res = s.res := rfl
@[simp] theorem State.dutyWrite_seedw (d : Byte) : (s.dutyWrite d).seedw = s.seedw := rfl
@[simp] theorem State.dutyWrite_cfg (d : Byte) : (s.dutyWrite d).cfg = s.cfg := rfl
@[simp] theorem State.dutyWrite_store (d : Byte) : (s.dutyWrite d).store = s.store := rfl
@[simp] theorem State.dutyWrite_agenda (d : Byte) : (s.dutyWrite d).agenda = s.agenda := rfl
@[simp] theorem State.dutyWrite_resp (d : Byte) : (s.dutyWrite d).resp = s.resp := rfl
@[simp] theorem State.dutyWrite_port (d : Byte) : (s.dutyWrite d).port = d :: s.port := rfl
@[simp] theorem State.dutyWrite_draws (d : Byte) : (s.dutyWrite d).draws = s.draws := rfl

/-! ### `State.respond` -/

@[simp] theorem State.respond_lfsr (r : Resp) : (s.respond r).lfsr = s.lfsr := rfl
@[simp] theorem State.respond_z1 (r : Resp) : (s.respond r).z1 = s.z1 := rfl
@[simp] theorem State.respond_z2 (r : Resp) : (s.respond r).z2 = s.z2 := rfl
@[simp] theorem State.respond_tick (r : Resp) : (s.respond r).tick = s.tick := rfl
@[simp] theorem State.respond_cnt (r : Resp) : (s.respond r).cnt = s.cnt := rfl
@[simp] theorem State.respond_phase (r : Resp) : (s.respond r).phase = s.phase := rfl
@[simp] theorem State.respond_duty (r : Resp) : (s.respond r).duty = s.duty := rfl
@[simp] theorem State.respond_mode (r : Resp) : (s.respond r).mode = s.mode := rfl
@[simp] theorem State.respond_err (r : Resp) : (s.respond r).err = s.err := rfl
@[simp] theorem State.respond_cause (r : Resp) : (s.respond r).cause = s.cause := rfl
@[simp] theorem State.respond_arg (r : Resp) : (s.respond r).arg = s.arg := rfl
@[simp] theorem State.respond_res (r : Resp) : (s.respond r).res = s.res := rfl
@[simp] theorem State.respond_seedw (r : Resp) : (s.respond r).seedw = s.seedw := rfl
@[simp] theorem State.respond_cfg (r : Resp) : (s.respond r).cfg = s.cfg := rfl
@[simp] theorem State.respond_store (r : Resp) : (s.respond r).store = s.store := rfl
@[simp] theorem State.respond_agenda (r : Resp) : (s.respond r).agenda = s.agenda := rfl
@[simp] theorem State.respond_resp (r : Resp) : (s.respond r).resp = r := rfl
@[simp] theorem State.respond_port (r : Resp) : (s.respond r).port = s.port := rfl
@[simp] theorem State.respond_draws (r : Resp) : (s.respond r).draws = s.draws := rfl

/-! ### `State.withAgenda` -/

@[simp] theorem State.withAgenda_lfsr (es : List Event) : (s.withAgenda es).lfsr = s.lfsr := rfl
@[simp] theorem State.withAgenda_z1 (es : List Event) : (s.withAgenda es).z1 = s.z1 := rfl
@[simp] theorem State.withAgenda_z2 (es : List Event) : (s.withAgenda es).z2 = s.z2 := rfl
@[simp] theorem State.withAgenda_tick (es : List Event) : (s.withAgenda es).tick = s.tick := rfl
@[simp] theorem State.withAgenda_cnt (es : List Event) : (s.withAgenda es).cnt = s.cnt := rfl
@[simp] theorem State.withAgenda_phase (es : List Event) : (s.withAgenda es).phase = s.phase := rfl
@[simp] theorem State.withAgenda_duty (es : List Event) : (s.withAgenda es).duty = s.duty := rfl
@[simp] theorem State.withAgenda_mode (es : List Event) : (s.withAgenda es).mode = s.mode := rfl
@[simp] theorem State.withAgenda_err (es : List Event) : (s.withAgenda es).err = s.err := rfl
@[simp] theorem State.withAgenda_cause (es : List Event) : (s.withAgenda es).cause = s.cause := rfl
@[simp] theorem State.withAgenda_arg (es : List Event) : (s.withAgenda es).arg = s.arg := rfl
@[simp] theorem State.withAgenda_res (es : List Event) : (s.withAgenda es).res = s.res := rfl
@[simp] theorem State.withAgenda_seedw (es : List Event) : (s.withAgenda es).seedw = s.seedw := rfl
@[simp] theorem State.withAgenda_cfg (es : List Event) : (s.withAgenda es).cfg = s.cfg := rfl
@[simp] theorem State.withAgenda_store (es : List Event) : (s.withAgenda es).store = s.store := rfl
@[simp] theorem State.withAgenda_agenda (es : List Event) : (s.withAgenda es).agenda = es := rfl
@[simp] theorem State.withAgenda_resp (es : List Event) : (s.withAgenda es).resp = s.resp := rfl
@[simp] theorem State.withAgenda_port (es : List Event) : (s.withAgenda es).port = s.port := rfl
@[simp] theorem State.withAgenda_draws (es : List Event) : (s.withAgenda es).draws = s.draws := rfl

/-! ### `State.setStoreByte` -/

@[simp] theorem State.setStoreByte_lfsr (a : Nat) (v : Byte) : (s.setStoreByte a v).lfsr = s.lfsr := rfl
@[simp] theorem State.setStoreByte_z1 (a : Nat) (v : Byte) : (s.setStoreByte a v).z1 = s.z1 := rfl
@[simp] theorem State.setStoreByte_z2 (a : Nat) (v : Byte) : (s.setStoreByte a v).z2 = s.z2 := rfl
@[simp] theorem State.setStoreByte_tick (a : Nat) (v : Byte) : (s.setStoreByte a v).tick = s.tick := rfl
@[simp] theorem State.setStoreByte_cnt (a : Nat) (v : Byte) : (s.setStoreByte a v).cnt = s.cnt := rfl
@[simp] theorem State.setStoreByte_phase (a : Nat) (v : Byte) : (s.setStoreByte a v).phase = s.phase := rfl
@[simp] theorem State.setStoreByte_duty (a : Nat) (v : Byte) : (s.setStoreByte a v).duty = s.duty := rfl
@[simp] theorem State.setStoreByte_mode (a : Nat) (v : Byte) : (s.setStoreByte a v).mode = s.mode := rfl
@[simp] theorem State.setStoreByte_err (a : Nat) (v : Byte) : (s.setStoreByte a v).err = s.err := rfl
@[simp] theorem State.setStoreByte_cause (a : Nat) (v : Byte) : (s.setStoreByte a v).cause = s.cause := rfl
@[simp] theorem State.setStoreByte_arg (a : Nat) (v : Byte) : (s.setStoreByte a v).arg = s.arg := rfl
@[simp] theorem State.setStoreByte_res (a : Nat) (v : Byte) : (s.setStoreByte a v).res = s.res := rfl
@[simp] theorem State.setStoreByte_seedw (a : Nat) (v : Byte) : (s.setStoreByte a v).seedw = s.seedw := rfl
@[simp] theorem State.setStoreByte_cfg (a : Nat) (v : Byte) : (s.setStoreByte a v).cfg = s.cfg := rfl
@[simp] theorem State.setStoreByte_store (a : Nat) (v : Byte) : (s.setStoreByte a v).store = writeCells s.store a v := rfl
@[simp] theorem State.setStoreByte_agenda (a : Nat) (v : Byte) : (s.setStoreByte a v).agenda = s.agenda := rfl
@[simp] theorem State.setStoreByte_resp (a : Nat) (v : Byte) : (s.setStoreByte a v).resp = s.resp := rfl
@[simp] theorem State.setStoreByte_port (a : Nat) (v : Byte) : (s.setStoreByte a v).port = s.port := rfl
@[simp] theorem State.setStoreByte_draws (a : Nat) (v : Byte) : (s.setStoreByte a v).draws = s.draws := rfl

/-! ### `State.raiseIllegal` -/

@[simp] theorem State.raiseIllegal_lfsr (c : Cause) : (s.raiseIllegal c).lfsr = s.lfsr := rfl
@[simp] theorem State.raiseIllegal_z1 (c : Cause) : (s.raiseIllegal c).z1 = s.z1 := rfl
@[simp] theorem State.raiseIllegal_z2 (c : Cause) : (s.raiseIllegal c).z2 = s.z2 := rfl
@[simp] theorem State.raiseIllegal_tick (c : Cause) : (s.raiseIllegal c).tick = s.tick := rfl
@[simp] theorem State.raiseIllegal_cnt (c : Cause) : (s.raiseIllegal c).cnt = s.cnt := rfl
@[simp] theorem State.raiseIllegal_phase (c : Cause) : (s.raiseIllegal c).phase = s.phase := rfl
@[simp] theorem State.raiseIllegal_duty (c : Cause) : (s.raiseIllegal c).duty = s.duty := rfl
@[simp] theorem State.raiseIllegal_mode (c : Cause) : (s.raiseIllegal c).mode = s.mode := rfl
@[simp] theorem State.raiseIllegal_err (c : Cause) : (s.raiseIllegal c).err = true := rfl
@[simp] theorem State.raiseIllegal_cause (c : Cause) : (s.raiseIllegal c).cause = causeCode c := rfl
@[simp] theorem State.raiseIllegal_arg (c : Cause) : (s.raiseIllegal c).arg = s.arg := rfl
@[simp] theorem State.raiseIllegal_res (c : Cause) : (s.raiseIllegal c).res = s.res := rfl
@[simp] theorem State.raiseIllegal_seedw (c : Cause) : (s.raiseIllegal c).seedw = s.seedw := rfl
@[simp] theorem State.raiseIllegal_cfg (c : Cause) : (s.raiseIllegal c).cfg = s.cfg := rfl
@[simp] theorem State.raiseIllegal_store (c : Cause) : (s.raiseIllegal c).store = s.store := rfl
@[simp] theorem State.raiseIllegal_agenda (c : Cause) : (s.raiseIllegal c).agenda = s.agenda := rfl
@[simp] theorem State.raiseIllegal_resp (c : Cause) : (s.raiseIllegal c).resp = s.resp := rfl
@[simp] theorem State.raiseIllegal_port (c : Cause) : (s.raiseIllegal c).port = s.port := rfl
@[simp] theorem State.raiseIllegal_draws (c : Cause) : (s.raiseIllegal c).draws = s.draws := rfl

/-! ### `State.raiseBusError` -/

@[simp] theorem State.raiseBusError_lfsr (a : Nat) : (s.raiseBusError a).lfsr = s.lfsr := rfl
@[simp] theorem State.raiseBusError_z1 (a : Nat) : (s.raiseBusError a).z1 = s.z1 := rfl
@[simp] theorem State.raiseBusError_z2 (a : Nat) : (s.raiseBusError a).z2 = s.z2 := rfl
@[simp] theorem State.raiseBusError_tick (a : Nat) : (s.raiseBusError a).tick = s.tick := rfl
@[simp] theorem State.raiseBusError_cnt (a : Nat) : (s.raiseBusError a).cnt = s.cnt := rfl
@[simp] theorem State.raiseBusError_phase (a : Nat) : (s.raiseBusError a).phase = s.phase := rfl
@[simp] theorem State.raiseBusError_duty (a : Nat) : (s.raiseBusError a).duty = s.duty := rfl
@[simp] theorem State.raiseBusError_mode (a : Nat) : (s.raiseBusError a).mode = s.mode := rfl
@[simp] theorem State.raiseBusError_err (a : Nat) : (s.raiseBusError a).err = s.err := rfl
@[simp] theorem State.raiseBusError_cause (a : Nat) : (s.raiseBusError a).cause = s.cause := rfl
@[simp] theorem State.raiseBusError_arg (a : Nat) : (s.raiseBusError a).arg = s.arg := rfl
@[simp] theorem State.raiseBusError_res (a : Nat) : (s.raiseBusError a).res = s.res := rfl
@[simp] theorem State.raiseBusError_seedw (a : Nat) : (s.raiseBusError a).seedw = s.seedw := rfl
@[simp] theorem State.raiseBusError_cfg (a : Nat) : (s.raiseBusError a).cfg = s.cfg := rfl
@[simp] theorem State.raiseBusError_store (a : Nat) : (s.raiseBusError a).store = s.store := rfl
@[simp] theorem State.raiseBusError_agenda (a : Nat) : (s.raiseBusError a).agenda = s.agenda := rfl
@[simp] theorem State.raiseBusError_resp (a : Nat) : (s.raiseBusError a).resp = .busError a := rfl
@[simp] theorem State.raiseBusError_port (a : Nat) : (s.raiseBusError a).port = s.port := rfl
@[simp] theorem State.raiseBusError_draws (a : Nat) : (s.raiseBusError a).draws = s.draws := rfl

/-! ### `State.queueCommand` -/

@[simp] theorem State.queueCommand_lfsr (w : Word) : (s.queueCommand w).lfsr = s.lfsr := rfl
@[simp] theorem State.queueCommand_z1 (w : Word) : (s.queueCommand w).z1 = s.z1 := rfl
@[simp] theorem State.queueCommand_z2 (w : Word) : (s.queueCommand w).z2 = s.z2 := rfl
@[simp] theorem State.queueCommand_tick (w : Word) : (s.queueCommand w).tick = s.tick := rfl
@[simp] theorem State.queueCommand_cnt (w : Word) : (s.queueCommand w).cnt = s.cnt := rfl
@[simp] theorem State.queueCommand_phase (w : Word) : (s.queueCommand w).phase = .idle := rfl
@[simp] theorem State.queueCommand_duty (w : Word) : (s.queueCommand w).duty = s.duty := rfl
@[simp] theorem State.queueCommand_mode (w : Word) : (s.queueCommand w).mode = .test := rfl
@[simp] theorem State.queueCommand_err (w : Word) : (s.queueCommand w).err = s.err := rfl
@[simp] theorem State.queueCommand_cause (w : Word) : (s.queueCommand w).cause = s.cause := rfl
@[simp] theorem State.queueCommand_arg (w : Word) : (s.queueCommand w).arg = s.arg := rfl
@[simp] theorem State.queueCommand_res (w : Word) : (s.queueCommand w).res = s.res := rfl
@[simp] theorem State.queueCommand_seedw (w : Word) : (s.queueCommand w).seedw = s.seedw := rfl
@[simp] theorem State.queueCommand_cfg (w : Word) : (s.queueCommand w).cfg = s.cfg := rfl
@[simp] theorem State.queueCommand_store (w : Word) : (s.queueCommand w).store = s.store := rfl
@[simp] theorem State.queueCommand_agenda (w : Word) : (s.queueCommand w).agenda = .write .b4 s.cfg.winBase w :: s.agenda := rfl
@[simp] theorem State.queueCommand_resp (w : Word) : (s.queueCommand w).resp = s.resp := rfl
@[simp] theorem State.queueCommand_port (w : Word) : (s.queueCommand w).port = s.port := rfl
@[simp] theorem State.queueCommand_draws (w : Word) : (s.queueCommand w).draws = s.draws := rfl

/-! ### `resetBlock` (`10_state.md` R34) -/

@[simp] theorem resetBlock_lfsr (test : Bool) : (resetBlock test s).lfsr = Config.freeWord s.draws := rfl
@[simp] theorem resetBlock_z1 (test : Bool) : (resetBlock test s).z1 = 0 := rfl
@[simp] theorem resetBlock_z2 (test : Bool) : (resetBlock test s).z2 = 0 := rfl
@[simp] theorem resetBlock_tick (test : Bool) : (resetBlock test s).tick = false := rfl
@[simp] theorem resetBlock_cnt (test : Bool) : (resetBlock test s).cnt = BitVec.ofNat 16 s.cfg.reload := rfl
@[simp] theorem resetBlock_phase (test : Bool) : (resetBlock test s).phase = .boot := rfl
@[simp] theorem resetBlock_duty (test : Bool) : (resetBlock test s).duty = s.cfg.dutyReset := rfl
@[simp] theorem resetBlock_mode (test : Bool) : (resetBlock test s).mode = strapMode test := rfl
@[simp] theorem resetBlock_err (test : Bool) : (resetBlock test s).err = false := rfl
@[simp] theorem resetBlock_cause (test : Bool) : (resetBlock test s).cause = 0 := rfl
@[simp] theorem resetBlock_arg (test : Bool) : (resetBlock test s).arg = 0 := rfl
@[simp] theorem resetBlock_res (test : Bool) : (resetBlock test s).res = 0 := rfl
@[simp] theorem resetBlock_seedw (test : Bool) : (resetBlock test s).seedw = Config.freeWord (s.draws + 1) := rfl
@[simp] theorem resetBlock_cfg (test : Bool) : (resetBlock test s).cfg = s.cfg := rfl
@[simp] theorem resetBlock_store (test : Bool) : (resetBlock test s).store = s.store := rfl
@[simp] theorem resetBlock_agenda (test : Bool) : (resetBlock test s).agenda = s.agenda := rfl
@[simp] theorem resetBlock_resp (test : Bool) : (resetBlock test s).resp = s.resp := rfl
@[simp] theorem resetBlock_port (test : Bool) : (resetBlock test s).port = s.port := rfl
@[simp] theorem resetBlock_draws (test : Bool) : (resetBlock test s).draws = s.draws + 2 := rfl

/-! ### `State.seedWriteSome`: only the store changes -/

/-- Whatever it writes, only the store changes. -/
theorem State.seedWriteSome_eq (m : BitVec 4) (v : Word) :
    s.seedWriteSome m v = { s with store := (s.seedWriteSome m v).store } := by
  have key : ∀ (t : State) (i : Nat), (∃ st, t = { s with store := st }) →
      ∃ st, (if m.getLsbD i then t.setStoreByte (s.cfg.seedAddr + i) (byteOf v i) else t) = { s with store := st } := by
    rintro t i ⟨st, rfl⟩
    by_cases h : m.getLsbD i = true
    · exact ⟨_, if_pos h⟩
    · exact ⟨st, if_neg h⟩
  obtain ⟨st, h⟩ := key _ 3 (key _ 2 (key _ 1 (key s 0 ⟨s.store, rfl⟩)))
  exact h.trans (by rw [show (s.seedWriteSome m v).store = st from congrArg State.store h])

@[simp] theorem State.seedWriteSome_lfsr (m : BitVec 4) (v : Word) : (s.seedWriteSome m v).lfsr = s.lfsr := by
  rw [State.seedWriteSome_eq]
@[simp] theorem State.seedWriteSome_z1 (m : BitVec 4) (v : Word) : (s.seedWriteSome m v).z1 = s.z1 := by
  rw [State.seedWriteSome_eq]
@[simp] theorem State.seedWriteSome_z2 (m : BitVec 4) (v : Word) : (s.seedWriteSome m v).z2 = s.z2 := by
  rw [State.seedWriteSome_eq]
@[simp] theorem State.seedWriteSome_tick (m : BitVec 4) (v : Word) : (s.seedWriteSome m v).tick = s.tick := by
  rw [State.seedWriteSome_eq]
@[simp] theorem State.seedWriteSome_cnt (m : BitVec 4) (v : Word) : (s.seedWriteSome m v).cnt = s.cnt := by
  rw [State.seedWriteSome_eq]
@[simp] theorem State.seedWriteSome_phase (m : BitVec 4) (v : Word) : (s.seedWriteSome m v).phase = s.phase := by
  rw [State.seedWriteSome_eq]
@[simp] theorem State.seedWriteSome_duty (m : BitVec 4) (v : Word) : (s.seedWriteSome m v).duty = s.duty := by
  rw [State.seedWriteSome_eq]
@[simp] theorem State.seedWriteSome_mode (m : BitVec 4) (v : Word) : (s.seedWriteSome m v).mode = s.mode := by
  rw [State.seedWriteSome_eq]
@[simp] theorem State.seedWriteSome_err (m : BitVec 4) (v : Word) : (s.seedWriteSome m v).err = s.err := by
  rw [State.seedWriteSome_eq]
@[simp] theorem State.seedWriteSome_cause (m : BitVec 4) (v : Word) : (s.seedWriteSome m v).cause = s.cause := by
  rw [State.seedWriteSome_eq]
@[simp] theorem State.seedWriteSome_arg (m : BitVec 4) (v : Word) : (s.seedWriteSome m v).arg = s.arg := by
  rw [State.seedWriteSome_eq]
@[simp] theorem State.seedWriteSome_res (m : BitVec 4) (v : Word) : (s.seedWriteSome m v).res = s.res := by
  rw [State.seedWriteSome_eq]
@[simp] theorem State.seedWriteSome_seedw (m : BitVec 4) (v : Word) : (s.seedWriteSome m v).seedw = s.seedw := by
  rw [State.seedWriteSome_eq]
@[simp] theorem State.seedWriteSome_cfg (m : BitVec 4) (v : Word) : (s.seedWriteSome m v).cfg = s.cfg := by
  rw [State.seedWriteSome_eq]
@[simp] theorem State.seedWriteSome_agenda (m : BitVec 4) (v : Word) : (s.seedWriteSome m v).agenda = s.agenda := by
  rw [State.seedWriteSome_eq]
@[simp] theorem State.seedWriteSome_resp (m : BitVec 4) (v : Word) : (s.seedWriteSome m v).resp = s.resp := by
  rw [State.seedWriteSome_eq]
@[simp] theorem State.seedWriteSome_port (m : BitVec 4) (v : Word) : (s.seedWriteSome m v).port = s.port := by
  rw [State.seedWriteSome_eq]
@[simp] theorem State.seedWriteSome_draws (m : BitVec 4) (v : Word) : (s.seedWriteSome m v).draws = s.draws := by
  rw [State.seedWriteSome_eq]

/-! ### `bootStep` (`40_bitsource.md` R113) -/

@[simp] theorem bootStep_lfsr : (bootStep s).lfsr = s.bootSeed := rfl
@[simp] theorem bootStep_z1 : (bootStep s).z1 = s.z1 := by
  simp [bootStep, State.seedWrite]
@[simp] theorem bootStep_z2 : (bootStep s).z2 = s.z2 := by
  simp [bootStep, State.seedWrite]
@[simp] theorem bootStep_tick : (bootStep s).tick = s.tick := by
  simp [bootStep, State.seedWrite]
@[simp] theorem bootStep_cnt : (bootStep s).cnt = s.cnt := by
  simp [bootStep, State.seedWrite]
@[simp] theorem bootStep_phase : (bootStep s).phase = .idle := rfl
@[simp] theorem bootStep_duty : (bootStep s).duty = s.duty := by
  simp [bootStep, State.seedWrite]
@[simp] theorem bootStep_mode : (bootStep s).mode = s.mode := by
  simp [bootStep, State.seedWrite]
@[simp] theorem bootStep_err : (bootStep s).err = s.err := by
  simp [bootStep, State.seedWrite]
@[simp] theorem bootStep_cause : (bootStep s).cause = s.cause := by
  simp [bootStep, State.seedWrite]
@[simp] theorem bootStep_arg : (bootStep s).arg = s.arg := by
  simp [bootStep, State.seedWrite]
@[simp] theorem bootStep_res : (bootStep s).res = s.res := by
  simp [bootStep, State.seedWrite]
@[simp] theorem bootStep_seedw : (bootStep s).seedw = s.bootSeed := rfl
@[simp] theorem bootStep_cfg : (bootStep s).cfg = s.cfg := by
  simp [bootStep, State.seedWrite]
@[simp] theorem bootStep_store : (bootStep s).store = (s.seedWrite s.bootSeed).store := rfl
@[simp] theorem bootStep_agenda : (bootStep s).agenda = s.agenda := by
  simp [bootStep, State.seedWrite]
@[simp] theorem bootStep_resp : (bootStep s).resp = s.resp := by
  simp [bootStep, State.seedWrite]
@[simp] theorem bootStep_port : (bootStep s).port = s.port := by
  simp [bootStep, State.seedWrite]
@[simp] theorem bootStep_draws : (bootStep s).draws = s.draws := by
  simp [bootStep, State.seedWrite]

end Sys2Proof.Machine
end

