-- ==== Sys2Proof/Laws/Memory.lean ====
section
/-! SUPPORT. The laws of the seed store: reads after writes, and the canonical form that every memory operation keeps. -/

namespace Sys2Proof.Machine

@[simp] theorem readCells_consCell_other {a b : Nat} (h : b ≠ a) (v : Byte) (m : List Host.Cell) :
    readCells (consCell a v m) b = readCells m b := by
  unfold consCell
  split_ifs
  · rfl
  · simp [readCells, Ne.symm h]

/-- A write leaves every other address alone. -/
theorem readCells_writeCells_other {a b : Nat} (h : b ≠ a) (v : Byte) (m : List Host.Cell) :
    readCells (writeCells m a v) b = readCells m b := by
  induction m with
  | nil => simp [writeCells, h]
  | cons c rest ih =>
    obtain ⟨k, u⟩ := c
    simp only [writeCells]
    split_ifs with h1 h2
    · simp [h]
    · subst h2
      simp [h, readCells, Ne.symm h]
    · simp [readCells, ih]

/-- An address below every listed one reads blank. -/
theorem readCells_below {size lo a : Nat} {m : List Host.Cell} (hm : cellsWf size lo m = true) (ha : a < lo) :
    readCells m a = blankByte := by
  induction m generalizing lo with
  | nil => rfl
  | cons c rest ih =>
    obtain ⟨k, u⟩ := c
    simp only [cellsWf, Bool.and_eq_true, decide_eq_true_eq] at hm
    simp only [readCells]
    rw [if_neg (by omega), ih hm.2 (by omega)]

theorem readCells_consCell_same {size a : Nat} {m : List Host.Cell} (hm : cellsWf size (a + 1) m = true) (v : Byte) :
    readCells (consCell a v m) a = v := by
  unfold consCell
  split_ifs with h
  · rw [readCells_below hm (by omega), h]
  · simp [readCells]

/-- The canonical form does not depend on a smaller lower bound. -/
theorem cellsWf_mono {size lo lo' : Nat} {m : List Host.Cell} (hm : cellsWf size lo m = true) (h : lo' ≤ lo) :
    cellsWf size lo' m = true := by
  cases m with
  | nil => rfl
  | cons c rest =>
    obtain ⟨k, u⟩ := c
    simp only [cellsWf, Bool.and_eq_true, decide_eq_true_eq] at hm ⊢
    exact ⟨⟨⟨by omega, hm.1.1.2⟩, hm.1.2⟩, hm.2⟩

/-- A read after a write to the same address gives the value written. -/
theorem readCells_writeCells_same {size lo a : Nat} {m : List Host.Cell} (hm : cellsWf size lo m = true) (v : Byte) :
    readCells (writeCells m a v) a = v := by
  induction m generalizing lo with
  | nil => exact readCells_consCell_same (size := size) (by rfl) v
  | cons c rest ih =>
    obtain ⟨k, u⟩ := c
    have hm' := hm
    simp only [cellsWf, Bool.and_eq_true, decide_eq_true_eq] at hm
    simp only [writeCells]
    split_ifs with h1 h2
    · refine readCells_consCell_same (size := size) ?_ v
      simp only [cellsWf, Bool.and_eq_true, decide_eq_true_eq]
      exact ⟨⟨⟨by omega, hm.1.1.2⟩, hm.1.2⟩, hm.2⟩
    · subst h2
      exact readCells_consCell_same hm.2 v
    · rw [readCells, if_neg (Ne.symm h2), ih hm.2]

theorem cellsWf_consCell {size lo a : Nat} {m : List Host.Cell} (hm : cellsWf size (a + 1) m = true) (h : lo ≤ a) (hs : a < size)
    (v : Byte) : cellsWf size lo (consCell a v m) = true := by
  unfold consCell
  split_ifs with hv
  · exact cellsWf_mono hm (by omega)
  · simp [cellsWf, h, hs, hv, hm]

/-- A write inside the store keeps the canonical form. -/
theorem cellsWf_writeCells {size lo a : Nat} {m : List Host.Cell} (hm : cellsWf size lo m = true) (h : lo ≤ a) (hs : a < size)
    (v : Byte) : cellsWf size lo (writeCells m a v) = true := by
  induction m generalizing lo with
  | nil => exact cellsWf_consCell (by rfl) h hs v
  | cons c rest ih =>
    obtain ⟨k, u⟩ := c
    have hm' := hm
    simp only [cellsWf, Bool.and_eq_true, decide_eq_true_eq] at hm
    simp only [writeCells]
    split_ifs with h1 h2
    · refine cellsWf_consCell ?_ h hs v
      simp only [cellsWf, Bool.and_eq_true, decide_eq_true_eq]
      exact ⟨⟨⟨by omega, hm.1.1.2⟩, hm.1.2⟩, hm.2⟩
    · subst h2
      exact cellsWf_consCell hm.2 h hs v
    · simp only [cellsWf, Bool.and_eq_true, decide_eq_true_eq]
      exact ⟨⟨⟨hm.1.1.1, hm.1.1.2⟩, hm.1.2⟩, ih hm.2 (by omega)⟩

/-- Equal memories are equal data: two canonical lists that read alike everywhere are the same list. -/
theorem cells_ext {size lo lo' : Nat} {m m' : List Host.Cell} (hm : cellsWf size lo m = true) (hm' : cellsWf size lo' m' = true)
    (h : ∀ a, readCells m a = readCells m' a) : m = m' := by
  induction m generalizing lo lo' m' with
  | nil =>
    cases m' with
    | nil => rfl
    | cons c rest =>
      obtain ⟨k, u⟩ := c
      simp only [cellsWf, Bool.and_eq_true, decide_eq_true_eq] at hm'
      have := h k
      simp only [readCells, if_true] at this
      exact absurd this.symm hm'.1.2
  | cons c rest ih =>
    obtain ⟨k, u⟩ := c
    simp only [cellsWf, Bool.and_eq_true, decide_eq_true_eq] at hm
    cases m' with
    | nil =>
      have := h k
      simp only [readCells, if_true] at this
      exact absurd this hm.1.2
    | cons c' rest' =>
      obtain ⟨k', u'⟩ := c'
      simp only [cellsWf, Bool.and_eq_true, decide_eq_true_eq] at hm'
      have hk : k = k' := by
        by_contra hne
        rcases Nat.lt_or_gt_of_ne hne with hlt | hlt
        · have := h k
          simp only [readCells, if_true, if_neg (Ne.symm hne)] at this
          rw [readCells_below hm'.2 (by omega)] at this
          exact hm.1.2 this
        · have := h k'
          simp only [readCells, if_true, if_neg hne] at this
          rw [readCells_below hm.2 (by omega)] at this
          exact hm'.1.2 this.symm
      subst hk
      have hu : u = u' := by
        have := h k
        simpa only [readCells, if_true] using this
      subst hu
      congr 1
      refine ih hm.2 hm'.2 fun a => ?_
      by_cases ha : k = a
      · subst ha
        rw [readCells_below hm.2 (by omega), readCells_below hm'.2 (by omega)]
      · have := h a
        simpa only [readCells, if_neg ha] using this

@[simp] theorem State.storeByte_setStoreByte_other (s : State) {a b : Nat} (h : b ≠ a) (v : Byte) :
    (s.setStoreByte a v).storeByte b = s.storeByte b := readCells_writeCells_other h v s.store

theorem State.storeByte_setStoreByte_same (s : State) (h : Memory.wf s = true) (a : Nat) (v : Byte) :
    (s.setStoreByte a v).storeByte a = v := readCells_writeCells_same h v

/-- A store write inside the store keeps the canonical form. -/
theorem wf_setStoreByte {s : State} (h : Memory.wf s = true) {a : Nat} (ha : a < s.cfg.storeSize) (v : Byte) :
    Memory.wf (s.setStoreByte a v) = true := cellsWf_writeCells h (Nat.zero_le a) ha v

/-- Writing any part of the seed word keeps the canonical form, in an instance whose seed lies inside the store (R53). -/
theorem wf_seedWriteSome {s : State} (h : Memory.wf s = true) (hs : s.cfg.seedAddr + 4 ≤ s.cfg.storeSize) (m : BitVec 4)
    (v : Word) : Memory.wf (s.seedWriteSome m v) = true := by
  have key : ∀ (t : State) (i : Nat), i < 4 → t.cfg = s.cfg → Memory.wf t = true →
      Memory.wf (if m.getLsbD i then t.setStoreByte (s.cfg.seedAddr + i) (byteOf v i) else t) = true ∧
      (if m.getLsbD i then t.setStoreByte (s.cfg.seedAddr + i) (byteOf v i) else t).cfg = s.cfg := by
    intro t i hi hc ht
    split_ifs
    · exact ⟨wf_setStoreByte ht (by rw [hc]; omega) _, hc⟩
    · exact ⟨ht, hc⟩
  have h0 := key s 0 (by omega) rfl h
  have h1 := key _ 1 (by omega) h0.2 h0.1
  have h2 := key _ 2 (by omega) h1.2 h1.1
  exact (key _ 3 (by omega) h2.2 h2.1).1

/-- The boot step keeps the canonical form. -/
theorem wf_bootStep {s : State} (h : Memory.wf s = true) (hs : s.cfg.seedAddr + 4 ≤ s.cfg.storeSize) :
    Memory.wf (bootStep s) = true := wf_seedWriteSome h hs 0xF s.bootSeed

/-- Bytes outside the seed word survive a write of any part of it. -/
theorem State.storeByte_seedWriteSome_other (s : State) (m : BitVec 4) (v : Word) {a : Nat}
    (h : a < s.cfg.seedAddr ∨ s.cfg.seedAddr + 4 ≤ a) : (s.seedWriteSome m v).storeByte a = s.storeByte a := by
  have key : ∀ (t : State) (i : Nat), i < 4 →
      (if m.getLsbD i then t.setStoreByte (s.cfg.seedAddr + i) (byteOf v i) else t).storeByte a = t.storeByte a := by
    intro t i hi
    split_ifs
    · exact State.storeByte_setStoreByte_other t (by omega) _
    · rfl
  simp only [State.seedWriteSome]
  rw [key _ 3 (by omega), key _ 2 (by omega), key _ 1 (by omega), key _ 0 (by omega)]

/-- The reset state's store is canonical. -/
theorem wf_reset : Memory.wf State.reset = true := rfl

end Sys2Proof.Machine
end

