-- ==== Sys2Proof/Laws/Operands.lean ====
section
/-! SUPPORT. The width and division primitives (`00_scope.md` R12, R13) related to the library's. -/

namespace Sys2Proof.Machine

/-- Floor division by a natural number is the library's `/`. -/
theorem fdiv_eq_ediv (v : Int) (d : Nat) : fdiv v d = v / d := Int.fdiv_eq_ediv_of_nonneg v (Int.natCast_nonneg d)

/-- An arithmetic shift is floor division by a power of two. -/
theorem asr_eq_ediv (v : Int) (s : Nat) : asr v s = v / 2 ^ s := by
  rw [asr, fdiv_eq_ediv]; norm_cast

/-- `wrap_N` is reading the value back from an N-bit register. -/
theorem wrap_eq_toInt_ofInt {N : Nat} (hN : 0 < N) (v : Int) : wrap N v = (BitVec.ofInt N v).toInt := by
  have h2 : (2 : Int) ^ N = 2 * 2 ^ (N - 1) := by
    obtain ⟨k, rfl⟩ : ∃ k, N = k + 1 := ⟨N - 1, by omega⟩
    rw [Nat.add_sub_cancel, pow_succ, mul_comm]
  have hpos : (0 : Int) < 2 ^ (N - 1) := by positivity
  rw [BitVec.toInt_ofInt, Int.bmod_def]
  simp only [wrap]
  push_cast
  have hhalf : ((2 : Int) ^ N + 1) / 2 = 2 ^ (N - 1) := by omega
  rw [hhalf]
  split_ifs <;> omega

/-- `wrap_N` lies in the signed range. -/
theorem wrap_range {N : Nat} (hN : 0 < N) (v : Int) : -(2 ^ (N - 1)) ≤ wrap N v ∧ wrap N v < 2 ^ (N - 1) := by
  have h2 : (2 : Int) ^ N = 2 * 2 ^ (N - 1) := by
    obtain ⟨k, rfl⟩ : ∃ k, N = k + 1 := ⟨N - 1, by omega⟩
    rw [Nat.add_sub_cancel, pow_succ, mul_comm]
  have hpos : (0 : Int) < 2 ^ (N - 1) := by positivity
  have h0 := Int.emod_nonneg v (b := 2 ^ N) (by positivity)
  have h1 := Int.emod_lt_of_pos v (b := 2 ^ N) (by positivity)
  simp only [wrap]
  split_ifs <;> omega

/-- A value inside the signed range is its own wrap. -/
theorem wrap_eq_self {N : Nat} (hN : 0 < N) {v : Int} (hlo : -(2 ^ (N - 1)) ≤ v) (hhi : v < 2 ^ (N - 1)) : wrap N v = v := by
  have h2 : (2 : Int) ^ N = 2 * 2 ^ (N - 1) := by
    obtain ⟨k, rfl⟩ : ∃ k, N = k + 1 := ⟨N - 1, by omega⟩
    rw [Nat.add_sub_cancel, pow_succ, mul_comm]
  have hpos : (0 : Int) < 2 ^ (N - 1) := by positivity
  simp only [wrap]
  rcases lt_or_ge v 0 with hv | hv
  · have : v % 2 ^ N = v + 2 ^ N := by
      rw [← Int.add_emod_right, Int.emod_eq_of_lt (by omega) (by omega)]
    rw [this]
    split_ifs <;> omega
  · rw [Int.emod_eq_of_lt hv (by omega)]
    split_ifs <;> omega

end Sys2Proof.Machine
end

