-- ==== Sys2Proof/Laws/Ops.lean ====
section
/-! SUPPORT. For each shared operation, once, everything it can do. Later proofs cite these lemmas and do not unfold the operations. -/

namespace Sys2Proof.Machine

/-! ### Scheduler operations -/

/-- The overflow step's work: an expiry, or a decrement (`44_scheduler.md` R170). -/
theorem ovfApply_cases (s : State) :
    (s.cnt = 1 ∧ ovfApply s = { s with cnt := BitVec.ofNat 16 s.cfg.reload, tick := true }) ∨
    (s.cnt ≠ 1 ∧ ovfApply s = { s with cnt := s.cnt - 1 }) := by
  have h : s.cnt - 1 = 0 ↔ s.cnt = 1 := by rw [sub_eq_zero]
  by_cases hc : s.cnt = 1
  · exact .inl ⟨hc, by simp only [ovfApply, if_pos (h.2 hc)]; rfl⟩
  · exact .inr ⟨hc, by simp only [ovfApply, if_neg (mt h.1 hc)]; rfl⟩

/-- TMR's step has effect in RUN mode after the boot step, and nowhere else (R170, R175, R251). -/
theorem overflowStep_cases (s : State) :
    (s.mode = .run ∧ s.phase ≠ .boot ∧ overflowStep s = ovfApply s) ∨
    ((s.mode = .test ∨ s.phase = .boot) ∧ overflowStep s = s) := by
  unfold overflowStep
  by_cases h : s.mode = .run ∧ s.phase ≠ .boot
  · exact .inl ⟨h.1, h.2, if_pos h⟩
  · refine .inr ⟨?_, if_neg h⟩
    rcases hm : s.mode with _ | _
    · exact .inr (by_contra fun hp => h ⟨hm, hp⟩)
    · exact .inl rfl

/-- The update cycle's work (R173): five fields. -/
theorem updateApply_eq (s : State) :
    updateApply s =
      ({ s with
          lfsr := (normal s.lfsr).1
          z1 := BitVec.ofInt 32 (filter s.cfg.filter s.delays (normal s.lfsr).2).1.1
          z2 := BitVec.ofInt 32 (filter s.cfg.filter s.delays (normal s.lfsr).2).1.2
          duty := dutyOf s.cfg (filter s.cfg.filter s.delays (normal s.lfsr).2).2
          port := dutyOf s.cfg (filter s.cfg.filter s.delays (normal s.lfsr).2).2 :: s.port },
        dutyOf s.cfg (filter s.cfg.filter s.delays (normal s.lfsr).2).2) := rfl

/-- SEQ's turn is one of its three steps, or nothing (R174 to R176). -/
theorem seqTurn_cases (s : State) :
    (s.phase = .boot ∧ seqTurn s = bootStep s) ∨
    (s.phase = .idle ∧ s.mode = .run ∧ s.tick = true ∧ seqTurn s = observeAndClear s) ∨
    (s.phase = .updating ∧ s.mode = .run ∧ seqTurn s = updateCycle s) ∨
    (s.phase ≠ .boot ∧ (s.mode = .test ∨ (s.phase = .idle ∧ s.tick = false)) ∧ seqTurn s = s) := by
  unfold seqTurn
  cases hp : s.phase with
  | boot => exact .inl ⟨rfl, rfl⟩
  | idle =>
    dsimp only
    by_cases h : s.mode = .run ∧ s.tick = true
    · exact .inr (.inl ⟨rfl, h.1, h.2, if_pos h⟩)
    · refine .inr (.inr (.inr ⟨nofun, ?_, if_neg h⟩))
      cases hm : s.mode with
      | test => exact .inl rfl
      | run => exact .inr ⟨rfl, by simpa [hm] using h⟩
  | updating =>
    dsimp only
    cases hm : s.mode with
    | run => exact .inr (.inr (.inl ⟨rfl, rfl, if_pos rfl⟩))
    | test => exact .inr (.inr (.inr ⟨nofun, .inl rfl, if_neg nofun⟩))

/-! ### Commands -/

/-- A command has its effect in TEST mode and is illegal, cause 1, in RUN mode (`45_command_port.md` R191). -/
theorem inTest_cases {s e t : State} (h : s.inTest e = .next t) :
    (s.mode = .test ∧ t = e) ∨ (s.mode = .run ∧ t = s.raiseIllegal .cmdInRun) := by
  unfold State.inTest at h
  rcases hm : s.mode with _ | _ <;> simp [hm] at h
  · exact .inr ⟨rfl, h.symm⟩
  · exact .inl ⟨rfl, h.symm⟩

@[simp] theorem inTest_test {s : State} (h : s.mode = .test) (e : State) : s.inTest e = .next e := by
  simp [State.inTest, h]

@[simp] theorem inTest_run {s : State} (h : s.mode = .run) (e : State) : s.inTest e = .next (s.raiseIllegal .cmdInRun) := by
  simp [State.inTest, h]

/-- Every command answers a next state: the command port has no other outcome (`60_exceptions.md` R220, R222). -/
theorem exec_answers (i : Instr) (s : State) : ∃ t, exec i s = .next t := by
  cases i <;> exact ⟨_, rfl⟩

/-- A CMD write is an illegal command or runs the decoded one (R190). -/
theorem cmdWrite_cases {w : Word} {s : State} {o : Host.Outcome State Fault Refusal} (h : cmdWrite w s = o) :
    (∃ c, decode s.mode w = .illegal c ∧ o = .next (s.raiseIllegal c)) ∨ (∃ i, decode s.mode w = .op i ∧ o = exec i s) := by
  unfold cmdWrite at h
  split at h
  · exact .inl ⟨_, ‹_›, h.symm⟩
  · exact .inr ⟨_, ‹_›, h.symm⟩

/-! ### HOST's accesses -/

/-- What a write to a window register can do (R190, R202). -/
theorem writeReg_cases {o : Nat} {v : Word} {s : State} {r : Host.Outcome State Fault Refusal} (h : writeReg o v s = r) :
    (o = 0x00 ∧ r = cmdWrite v s) ∨ (o = 0x04 ∧ r = .next (s.setArg v)) ∨
    (o = 0x0C ∧ v.getLsbD 3 = true ∧ r = .next s.clearErr) ∨ (o = 0x0C ∧ v.getLsbD 3 = false ∧ r = .next s) ∨
    (o ≠ 0x00 ∧ o ≠ 0x04 ∧ o ≠ 0x0C ∧ r = .next s) := by
  unfold writeReg at h
  split at h
  · exact .inl ⟨rfl, h.symm⟩
  · exact .inr (.inl ⟨rfl, h.symm⟩)
  · cases hv : v.getLsbD 3 with
    | true =>
      rw [hv, if_pos rfl] at h
      exact .inr (.inr (.inl ⟨rfl, rfl, h.symm⟩))
    | false =>
      rw [hv, if_neg (by decide)] at h
      exact .inr (.inr (.inr (.inl ⟨rfl, rfl, h.symm⟩)))
  · exact .inr (.inr (.inr (.inr ⟨by assumption, by assumption, by assumption, h.symm⟩)))

/-- What a HOST read can do: the register's value, the bus error, or no response of the block (`20_memory.md` R55, R56). -/
theorem hostRead_cases {w : Width} {a : Nat} {s : State} {r : Host.Outcome State Fault Refusal} (h : hostRead w a s = r) :
    (touchesWindow s.cfg w a = true ∧ legalAccess s.cfg w a = true ∧
      r = .next (s.respond (.data (readReg (a - s.cfg.winBase) s)))) ∨
    (touchesWindow s.cfg w a = true ∧ legalAccess s.cfg w a = false ∧ r = .next (s.raiseBusError a)) ∨
    (touchesWindow s.cfg w a = false ∧ r = .next (s.respond (.notWindow a))) := by
  unfold hostRead at h
  split_ifs at h with ht hl
  · exact .inl ⟨ht, hl, h.symm⟩
  · exact .inr (.inl ⟨ht, Bool.eq_false_iff.2 hl, h.symm⟩)
  · exact .inr (.inr ⟨Bool.eq_false_iff.2 ht, h.symm⟩)

/-- What a HOST write can do: a register write, the bus error, or no response of the block (R55, R56). -/
theorem hostWrite_cases {w : Width} {a : Nat} {v : Word} {s : State} {r : Host.Outcome State Fault Refusal}
    (h : hostWrite w a v s = r) :
    (touchesWindow s.cfg w a = true ∧ legalAccess s.cfg w a = true ∧
      r = writeReg (a - s.cfg.winBase) v (s.respond .written)) ∨
    (touchesWindow s.cfg w a = true ∧ legalAccess s.cfg w a = false ∧ r = .next (s.raiseBusError a)) ∨
    (touchesWindow s.cfg w a = false ∧ r = .next (s.respond (.notWindow a))) := by
  unfold hostWrite at h
  split_ifs at h with ht hl
  · exact .inl ⟨ht, hl, h.symm⟩
  · exact .inr (.inl ⟨ht, Bool.eq_false_iff.2 hl, h.symm⟩)
  · exact .inr (.inr ⟨Bool.eq_false_iff.2 ht, h.symm⟩)

/-- HOST reads a store byte that exists, or the run ends. -/
theorem hostStoreRead_cases {a : Nat} {s : State} {r : Host.Outcome State Fault Refusal} (h : hostStoreRead a s = r) :
    (a < s.cfg.storeSize ∧ r = .next (s.respond (.storeByte (s.storeByte a)))) ∨
    (s.cfg.storeSize ≤ a ∧ r = .fault (.noStoreByte a)) := by
  unfold hostStoreRead at h
  split_ifs at h with ha
  · exact .inl ⟨ha, h.symm⟩
  · exact .inr ⟨by omega, h.symm⟩

/-- HOST writes a store byte that exists, or the run ends. -/
theorem hostStoreWrite_cases {a : Nat} {v : Byte} {s : State} {r : Host.Outcome State Fault Refusal}
    (h : hostStoreWrite a v s = r) :
    (a < s.cfg.storeSize ∧ r = .next ((s.setStoreByte a v).respond .storeWritten)) ∨
    (s.cfg.storeSize ≤ a ∧ r = .fault (.noStoreByte a)) := by
  unfold hostStoreWrite at h
  split_ifs at h with ha
  · exact .inl ⟨ha, h.symm⟩
  · exact .inr ⟨by omega, h.symm⟩

end Sys2Proof.Machine
end

