-- ==== Sys2Proof/Laws/PerInstr.lean ====
section
/-! SUPPORT. Statements made per command: what the encoder puts into the four fields of the word (`30_encoding.md` R80). -/

namespace Sys2Proof.Laws.EncodeFields

/-- The encoded word has `RSV = 0` and carries the command's OP, N and IMM8 (R80, R84). -/
def Statement (i : Instr) : Prop :=
  rsvField (encode i) = 0 ∧ opField (encode i) = i.opcode ∧ nField (encode i) = i.countField ∧
    immField (encode i) = i.immediateField

/-- The four fields of a concatenation of fields. -/
theorem extract_of_pack (op n : BitVec 4) (imm : BitVec 8) :
    (0#16 ++ op ++ n ++ imm).extractLsb' 16 16 = 0#16 ∧ (0#16 ++ op ++ n ++ imm).extractLsb' 12 4 = op ∧
    (0#16 ++ op ++ n ++ imm).extractLsb' 8 4 = n ∧ (0#16 ++ op ++ n ++ imm).extractLsb' 0 8 = imm := by
  refine ⟨?_, ?_, ?_, ?_⟩
  · rw [BitVec.extractLsb'_append_eq_of_le (by omega), BitVec.extractLsb'_append_eq_of_le (by omega),
      BitVec.extractLsb'_append_eq_of_le (by omega)]
    simp
  · rw [BitVec.extractLsb'_append_eq_of_le (by omega), BitVec.extractLsb'_append_eq_of_le (by omega),
      BitVec.extractLsb'_append_eq_of_add_le (by omega)]
    simp
  · rw [BitVec.extractLsb'_append_eq_of_le (by omega), BitVec.extractLsb'_append_eq_of_add_le (by omega)]
    simp
  · rw [BitVec.extractLsb'_append_eq_of_add_le (by omega)]
    simp

/-- Packing and unpacking the fields of a word. -/
theorem of_pack (op n : BitVec 4) (imm : BitVec 8) :
    rsvField (packWord op n imm) = 0 ∧ opField (packWord op n imm) = op ∧ nField (packWord op n imm) = n ∧
      immField (packWord op n imm) = imm := extract_of_pack op n imm

theorem nop : Statement .nop := of_pack _ _ _
theorem step : Statement .step := of_pack _ _ _
theorem draw (n : BitVec 4) : Statement (.draw n) := of_pack _ _ _
theorem normal : Statement .normal := of_pack _ _ _
theorem filter (x : BitVec 8) : Statement (.filter x) := of_pack _ _ _
theorem map : Statement .map := of_pack _ _ _
theorem update : Statement .update := of_pack _ _ _
theorem ovf : Statement .ovf := of_pack _ _ _
theorem take : Statement .take := of_pack _ _ _

end Sys2Proof.Laws.EncodeFields
end

