-- ==== Sys2Proof/Laws/Step.lean ====
section
/-! SUPPORT. Once, everything a step can do, and small facts about configurations and runs. -/

namespace Sys2Proof.Machine

/-- In phase BOOT an access waits for the boot step; after it, it is made (`70_reset_and_hazards.md` R251). -/
theorem stalled_cases {s : State} {rest : List Event} {k : State → Host.Outcome State Fault Refusal}
    {r : Host.Outcome State Fault Refusal} (h : s.stalled rest k = r) :
    (s.phase = .boot ∧ r = .next (bootStep s)) ∨ (s.phase ≠ .boot ∧ r = k (s.withAgenda rest)) := by
  unfold State.stalled at h
  split_ifs at h with hp
  · exact .inl ⟨hp, h.symm⟩
  · exact .inr ⟨hp, h.symm⟩

/-- A bus access is one of the things that wait in phase BOOT. -/
theorem waitsForBoot_of_isAccess {e : Event} (h : e.isAccess = true) : e.waitsForBoot = true := by
  cases e <;> first | rfl | exact h

/-- Everything a step can do when it answers. -/
theorem step_cases {s t : State} (h : step s = .next t) :
    configValid s.cfg = true ∧
    ((s.agenda = [] ∧ t = seqTurn s) ∨
     ∃ e rest, s.agenda = e :: rest ∧
      ((e = .seq ∧ t = seqTurn (s.withAgenda rest)) ∨
       (e = .ovf ∧ t = overflowStep (s.withAgenda rest)) ∨
       (∃ test, e = .reset test ∧ t = resetBlock test (s.withAgenda rest)) ∨
       (∃ test torn, e = .powerCycle test torn ∧ t = powerCycle test torn (s.withAgenda rest)) ∨
       (s.phase = .boot ∧ e.waitsForBoot = true ∧ t = bootStep s) ∨
       (s.phase ≠ .boot ∧
          ((∃ w a, e = .read w a ∧ hostRead w a (s.withAgenda rest) = .next t) ∨
           (∃ w a v, e = .write w a v ∧ hostWrite w a v (s.withAgenda rest) = .next t) ∨
           (∃ a, e = .storeRead a ∧ hostStoreRead a (s.withAgenda rest) = .next t) ∨
           (∃ a v, e = .storeWrite a v ∧ hostStoreWrite a v (s.withAgenda rest) = .next t))))) := by
  unfold step machineStep at h
  split_ifs at h with hv
  refine ⟨hv, ?_⟩
  unfold agendaStep at h
  split at h
  · exact .inl ⟨‹_›, by injection h with h; exact h.symm⟩
  · rename_i e rest ha
    refine .inr ⟨e, rest, ha, ?_⟩
    cases e with
    | seq => injection h with h; exact .inl ⟨rfl, h.symm⟩
    | ovf => injection h with h; exact .inr (.inl ⟨rfl, h.symm⟩)
    | reset test => injection h with h; exact .inr (.inr (.inl ⟨test, rfl, h.symm⟩))
    | powerCycle test torn => injection h with h; exact .inr (.inr (.inr (.inl ⟨test, torn, rfl, h.symm⟩)))
    | read w a =>
      rcases stalled_cases h with ⟨hp, he⟩ | ⟨hp, he⟩
      · injection he with he
        exact .inr (.inr (.inr (.inr (.inl ⟨hp, rfl, he⟩))))
      · exact .inr (.inr (.inr (.inr (.inr ⟨hp, .inl ⟨w, a, rfl, he.symm⟩⟩))))
    | write w a v =>
      rcases stalled_cases h with ⟨hp, he⟩ | ⟨hp, he⟩
      · injection he with he
        exact .inr (.inr (.inr (.inr (.inl ⟨hp, rfl, he⟩))))
      · exact .inr (.inr (.inr (.inr (.inr ⟨hp, .inr (.inl ⟨w, a, v, rfl, he.symm⟩)⟩))))
    | storeRead a =>
      rcases stalled_cases h with ⟨hp, he⟩ | ⟨hp, he⟩
      · injection he with he
        exact .inr (.inr (.inr (.inr (.inl ⟨hp, rfl, he⟩))))
      · exact .inr (.inr (.inr (.inr (.inr ⟨hp, .inr (.inr (.inl ⟨a, rfl, he.symm⟩))⟩))))
    | storeWrite a v =>
      rcases stalled_cases h with ⟨hp, he⟩ | ⟨hp, he⟩
      · injection he with he
        exact .inr (.inr (.inr (.inr (.inl ⟨hp, rfl, he⟩))))
      · exact .inr (.inr (.inr (.inr (.inr ⟨hp, .inr (.inr (.inr ⟨a, v, rfl, he.symm⟩))⟩))))

/-- A valid configuration's bounds (`00_scope.md` R9, `20_memory.md` R53). -/
theorem configValid_bounds {c : Config} (h : configValid c = true) :
    (1 ≤ c.reload ∧ c.reload ≤ 65535) ∧ c.wind ≤ 255 ∧ (1 ≤ c.mapDiv ∧ c.mapDiv ≤ 32767) ∧ c.seedAddr + 4 ≤ c.storeSize ∧
    c.winBase % 64 = 0 := by
  simp only [configValid, Bool.and_eq_true, decide_eq_true_eq] at h
  exact ⟨h.1.1.1.1.1.1.1, h.1.1.1.1.1.1.2, h.1.1.1.1.1.2, h.1.1.1.2, h.1.1.2⟩

/-- `RELOAD` fits the counter. -/
theorem reload_toNat {c : Config} (h : configValid c = true) : (BitVec.ofNat 16 c.reload).toNat = c.reload := by
  have := (configValid_bounds h).1
  rw [BitVec.toNat_ofNat, Nat.mod_eq_of_lt (by omega)]

/-- The reset instance is valid. -/
theorem configValid_default : configValid Config.default = true := by decide

/-- No step of a run, and none to count. -/
@[simp] theorem runFor_zero (s : State) : runFor 0 s = .next s := rfl

@[simp] theorem countSteps_zero (p : State → Bool) (s : State) : countSteps p 0 s = 0 := rfl

/-- One more step of a run. -/
theorem runFor_succ {s t : State} (n : Nat) (h : step s = .next t) : runFor (n + 1) s = runFor n t := by
  rw [runFor, runWith, h]; rfl

/-- One more step of a count. -/
theorem countSteps_succ {s t : State} (p : State → Bool) (n : Nat) (h : step s = .next t) :
    countSteps p (n + 1) s = (if p s then 1 else 0) + countSteps p n t := by
  rw [countSteps, countWith, h]; rfl

end Sys2Proof.Machine
end

