-- ==== Sys2Proof/Tests/Slice0.lean ====
section
/-! SUPPORT. Tests: words decoded, each command once or twice on the spec's own vectors (`95_test_vectors.md`), single steps of the other
agents, and for every obligation with hypotheses a concrete state that meets them all. -/

namespace Sys2Proof.Machine.Tests

/-! ### Helpers -/

/-- A TEST-mode instance after the boot of `95_test_vectors.md` P3: stored seed 1, so the LFSR starts from 2. -/
def testIdle : State := { State.reset with mode := .test, phase := .idle, lfsr := 2, seedw := 2 }

/-- The same in RUN mode. -/
def runIdle : State := { State.reset with phase := .idle, lfsr := 2, seedw := 2 }

/-- RUN mode with an update cycle to run. -/
def runUpdating : State := { runIdle with phase := .updating }

/-- Look at the next state, if there is one. -/
def after {α : Type} (o : Host.Outcome State Fault Refusal) (f : State → α) : Option α :=
  match o with
  | .next s => some (f s)
  | .fault _ => none
  | .refused _ => none

/-- There is a next state. -/
def answers (o : Host.Outcome State Fault Refusal) : Bool := (after o fun _ => ()).isSome

/-! ### Well-formedness (R82) -/

theorem test_draw_nine_is_ill_formed : (Instr.draw 9).wf = false := by decide
theorem test_draw_fifteen_is_ill_formed : (Instr.draw 15).wf = false := by decide
theorem test_draw_eight_is_well_formed : (Instr.draw 8).wf = true := by decide

/-! ### Decoding: words written out bit by bit from `30_encoding.md` R84 -/

theorem test_decode_nop : decodeTableWord 32 0b00000000000000000000000000000000 = some .nop := by decide
theorem test_decode_step : decodeTableWord 32 0b00000000000000000001000000000000 = some .step := by decide
theorem test_decode_draw_5 : decodeTableWord 32 0b00000000000000000010010100000000 = some (.draw 5) := by decide
theorem test_decode_normal : decodeTableWord 32 0b00000000000000000011000000000000 = some .normal := by decide
theorem test_decode_filter_neg3 : decodeTableWord 32 0b00000000000000000100000011111101 = some (.filter 0xFD) := by decide
theorem test_decode_map : decodeTableWord 32 0b00000000000000000101000000000000 = some .map := by decide
theorem test_decode_update : decodeTableWord 32 0b00000000000000000110000000000000 = some .update := by decide
theorem test_decode_ovf : decodeTableWord 32 0b00000000000000000111000000000000 = some .ovf := by decide
theorem test_decode_take : decodeTableWord 32 0b00000000000000001000000000000000 = some .take := by decide

/-! Rejected by name: `95_test_vectors.md` section 7.1. -/

theorem test_reject_run_mode : decode .run 0x00000000 = .illegal .cmdInRun := by decide
theorem test_reject_rsv_first : decode .test 0x80009F00 = .illegal .rsvNonzero := by decide
theorem test_reject_op_before_fields : decode .test 0x0000F0FF = .illegal .opReserved := by decide
theorem test_reject_draw_nine : decode .test 0x00002900 = .illegal .drawRange := by decide
theorem test_reject_step_with_n : decode .test 0x00001100 = .illegal .fieldNonzero := by decide
theorem test_reject_map_with_imm : decode .test 0x00005001 = .illegal .fieldNonzero := by decide
theorem test_reject_filter_with_n : decode .test 0x00004180 = .illegal .fieldNonzero := by decide
theorem test_reject_longer_word : decodeTableWord 40 0x0100000000 = none := by decide

/-! ### The commands, on the spec's vectors -/

/-- Section 7.1: a RUN-mode NOP gives STATUS 0x18. -/
theorem test_nop_in_run_mode : after (exec .nop runIdle) State.status = some 0x00000018 := by decide

/-- Section 2.2, step 4. -/
theorem test_step_feedback : after (exec .step { testIdle with lfsr := 0x28EB060F }) (fun s => (s.lfsr, s.res)) =
    some (0xB7D99B3B, 1) := by decide

/-- Section 2.1: bit 31 shifts down with no feedback. -/
theorem test_step_plain_shift : after (exec .step { testIdle with lfsr := 0x80000000 }) (fun s => (s.lfsr, s.res)) =
    some (0x40000000, 0) := by decide

/-- Section 2.3: an LSB-first draw would give 0x39. -/
theorem test_draw_8 : after (exec (.draw 8) { testIdle with lfsr := 1 }) (fun s => (s.lfsr, s.res)) =
    some (0x37E31CBB, 0x9C) := by decide +kernel

/-- Section 3.2: the low tail wraps to the top; a saturating shaper would give -128. -/
theorem test_normal_wraps : after (exec .normal { testIdle with lfsr := 0x00700000 }) (fun s => (s.lfsr, s.res)) =
    some (0xCEE4912A, 113) := by decide +kernel

/-- Section 3.1, sign-extended as R83 says. -/
theorem test_normal_sign : after (exec .normal testIdle) (fun s => s.res) = some 0xFFFFFFFA := by decide +kernel

/-- Section 4.1: `asr` floors. -/
theorem test_filter_minus_one : after (exec (.filter 0xFF) testIdle) (fun s => (s.z1.toInt, s.z2.toInt, s.res)) =
    some (-6244, 38951, 0xFFFFFFEE) := by decide

/-- Section 4.2, third row: `z1'` reads the old `z2`. -/
theorem test_filter_old_z2 : after (exec (.filter 0x80) { testIdle with z1 := 1608952, z2 := BitVec.ofInt 32 (-11966332) })
    (fun s => (s.z1.toInt, s.z2.toInt, s.res)) = some (736032, -9257561, 4084) := by decide

/-- Section 5.2: the upper half of ARG is ignored. -/
theorem test_map_saturates : after (exec .map { testIdle with arg := 0x12347FFF }) (fun s => s.res) = some 255 := by decide

/-- Section 5.1. -/
theorem test_map_floors : after (exec .map { testIdle with arg := 0xFFFFFB53 }) (fun s => s.res) = some 152 := by decide

/-- P3. -/
theorem test_update : after (exec .update testIdle) (fun s => (s.lfsr, s.res, s.port, s.z1, s.z2)) =
    some (0x6C71103A, 169, [169], 0xFFFF6DAA, 0x000390EB) := by decide +kernel

/-- Section 6. -/
theorem test_ovf_expiry : after (exec .ovf { testIdle with cnt := 1 }) (fun s => (s.cnt, s.tick)) = some (16, true) := by decide

/-- P3. -/
theorem test_take : after (exec .take { testIdle with tick := true }) (fun s => (s.res, s.tick)) = some (1, false) := by decide

/-! ### Single steps of the machine -/

/-- P5: the stored seed 0xFFFFFFFF wraps to 0, which is skipped, and 1 is written back. -/
theorem test_boot_skips_zero :
    after (step { State.reset with store := [(0, 0xFF), (1, 0xFF), (2, 0xFF), (3, 0xFF)] }) (fun s => (s.lfsr, s.store)) =
      some (1, [(0, 1)]) := by decide

/-- Section 6: observe-and-clear. -/
theorem test_observe : after (step { runIdle with tick := true }) (fun s => (s.tick, s.phase)) = some (false, .updating) := by decide

/-- Section 7.2: the CFG0 register. -/
theorem test_read_cfg0 : after (step { testIdle with agenda := [rd Config.default 0x28] }) (fun s => s.resp) =
    some (.data 0x00540010) := by decide

/-- Section 7.2: a narrow write is a bus error, and no command runs. -/
theorem test_narrow_write : after (step { testIdle with agenda := [wrW Config.default .b2 0x00 0x1000] })
    (fun s => (s.resp, s.lfsr)) = some (.busError 0, 2) := by decide

/-- R87: a placed command runs as the next step. -/
theorem test_placed_command : after (step (State.reset.withFetchWord 32 0x00008000)) (fun s => (s.res, s.agenda)) =
    some (0, []) := by decide

/-- R147 (b): the dead band's two fixed points. -/
theorem test_dead_band : filter FilterCfg.bw60 (-8, 70) 0 = ((-8, 70), -1) ∧ filter FilterCfg.bw60 (-7, 61) 0 = ((-7, 61), -1) := by
  decide

/-! ### Witnesses: the hypotheses of each obligation, met together. `testIdle` and `runIdle` have a valid configuration. -/

theorem witness_testIdle : testIdle.mode = .test ∧ testIdle.phase ≠ .boot ∧ testIdle.phase = .idle ∧ testIdle.cnt ≠ 0 ∧
    configValid testIdle.cfg = true ∧ Memory.wf testIdle = true := by decide

theorem witness_runIdle : runIdle.mode = .run ∧ runIdle.phase ≠ .boot ∧ runIdle.phase = .idle ∧ runIdle.cnt ≠ 0 ∧
    configValid runIdle.cfg = true ∧ runIdle.cnt.toNat = runIdle.cfg.reload ∧ runIdle.tick = false := by decide

/-- NopChangesNothing, StepCommandShiftsTheLfsr, NormalCommandSumsBitsAndWraps, FilterCommandFollowsItsRecord, MapCommandClampsIntoRes,
UpdateCommandRunsThePipeline, TakeCommandObservesAndClears. -/
theorem witness_commands : testIdle.mode = .test := rfl

/-- DrawPacksBitsMostSignificantFirst: each clause at its boundary. -/
theorem witness_draw : testIdle.mode = .test ∧ (0 : BitVec 4).toNat ≤ 8 ∧ (8 : BitVec 4).toNat ≤ 8 ∧ 8 < (9 : BitVec 4).toNat := by
  decide

/-- UpdateIsNormalThenFilterThenMap. -/
theorem witness_update_pipeline : ∃ s1 s2 s3, testIdle.mode = .test ∧ exec .normal testIdle = .next s1 ∧
    exec (.filter (s1.res.extractLsb' 0 8)) s1 = .next s2 ∧ exec .map { s2 with arg := s2.res } = .next s3 :=
  ⟨_, _, _, rfl, rfl, rfl, rfl⟩

/-- OvfCommandCountsDown: an expiry and a decrement. -/
theorem witness_ovf : testIdle.mode = .test ∧ testIdle.cnt ≠ 0 ∧ testIdle.cnt ≠ 1 ∧ ({ testIdle with cnt := 1 } : State).cnt ≠ 0 := by
  decide

/-- CommandsLeaveTheRestAlone, and the first clause of LfsrMovesOnlyByItsStep. -/
theorem witness_exec : ∃ t, testIdle.mode = .test ∧ (Instr.draw 8).wf = true ∧ exec (.draw 8) testIdle = .next t := ⟨_, rfl, rfl, rfl⟩

/-- RunModeMakesEveryCommandIllegal. -/
theorem witness_run_mode : runIdle.mode = .run := rfl

/-- IllegalWordRecordsTheFirstCause: clauses 2 to 5 at their boundary words, in TEST mode; clause 1 in RUN mode. -/
theorem witness_illegal_words : runIdle.mode = .run ∧ testIdle.mode = .test ∧
    (0x00010000 : Word).toNat / 65536 ≠ 0 ∧
    ((0x00009000 : Word).toNat / 65536 = 0 ∧ 9 ≤ (0x00009000 : Word).toNat / 4096 % 16) ∧
    ((0x00002900 : Word).toNat / 65536 = 0 ∧ (0x00002900 : Word).toNat / 4096 % 16 = 2 ∧ 8 < (0x00002900 : Word).toNat / 256 % 16) ∧
    ((0x00002801 : Word).toNat / 65536 = 0 ∧ (0x00002801 : Word).toNat / 4096 % 16 < 9 ∧
      ¬((0x00002801 : Word).toNat / 4096 % 16 = 2 ∧ 8 < (0x00002801 : Word).toNat / 256 % 16) ∧
      (0x00002801 : Word).toNat / 4096 % 16 ≠ 4 ∧ (0x00002801 : Word).toNat % 256 ≠ 0) := by decide

/-- DecodeOfEncodeIsTheCommand, DecodedWordIsItsEncoding. -/
theorem witness_decode : (Instr.draw 8).wf = true ∧ decode .test 0x00002800 = .op (.draw 8) := by decide

/-- StepRunsTheDecodedCommand: a word that decodes, and one that does not. -/
theorem witness_step_runs : let s := { testIdle with agenda := [.write .b4 0 0x00006000] }
    configValid s.cfg = true ∧ s.phase ≠ .boot ∧ s.agenda = .write .b4 s.cfg.winBase 0x00006000 :: [] ∧
    decode s.mode 0x00006000 = .op .update ∧
    ({ s with agenda := [.write .b4 0 0x00002900] } : State).agenda = .write .b4 s.cfg.winBase 0x00002900 :: [] ∧
    decode s.mode 0x00002900 = .illegal .drawRange := by decide

/-- PlacedWordRunsNext. -/
theorem witness_placed : configValid State.reset.cfg = true ∧ decodeTableWord 32 0x00004080 = some (.filter 0x80) := by decide

/-- EveryStepKeepsTheInvariant. -/
theorem witness_invariant : testIdle.Inv ∧ ∃ t, step testIdle = .next t := by
  refine ⟨?_, _, rfl⟩
  constructor
  case duty => exact .inl rfl
  case boot => exact fun h => absurd h (by decide)
  all_goals decide

/-- LfsrStepIsABijection. -/
theorem witness_lfsr : (0x80000000 : Word) ≠ 0 ∧ (1 : Word) ≠ 0 := by decide

/-- ZeroFilterStateIsAnEquilibrium. -/
theorem witness_zero_filter : testIdle.mode = .test ∧ testIdle.z1 = 0 ∧ testIdle.z2 = 0 := by decide

/-- DefaultFilterNeverOverflows: inputs at both ends of the range. -/
theorem witness_filter_inputs : ∀ x ∈ ([127, -128] : List Int), -128 ≤ x ∧ x ≤ 127 := by decide

/-- SeedWordReadsBack. -/
theorem witness_wf : Memory.wf { testIdle with store := [(0, 2), (3, 7)] } = true := by decide

/-- BootStepAdjustsAndSavesTheSeed, under both policies, on SEQ's turn, an empty agenda and a waiting access; MapperIsBoundedAndMonotone. -/
theorem witness_boot : let s := { State.reset with agenda := [.seq], store := [(0, 0xFF), (1, 0xFF), (2, 0xFF), (3, 0xFF)] }
    let u := { s with cfg := { Config.default with seedAdvance := .ifZero } }
    configValid s.cfg = true ∧ Memory.wf s = true ∧ s.phase = .boot ∧ s.agenda = .seq :: [] ∧
    configValid u.cfg = true ∧ Memory.wf u = true ∧ (-128 : Int) ≤ 127 ∧
    State.reset.agenda = [] ∧ Memory.wf State.reset = true ∧ (∀ e ∈ ([] : List Event).head?, e.waitsForBoot = true) ∧
    (∀ e ∈ [rd Config.default 0x10].head?, e.waitsForBoot = true) := by decide

/-- ConsecutiveBootsAdvanceTheSeed. -/
theorem witness_consecutive : let s := { runIdle with agenda := [.reset true, .seq, .reset false, .seq] }
    configValid s.cfg = true ∧ Memory.wf s = true ∧ s.agenda = .reset true :: .seq :: .reset false :: .seq :: [] ∧
    s.cfg.seedAdvance = .always := by decide

/-- ResetSetsEveryRegister, in UPDATING, and by power loss in IDLE. -/
theorem witness_reset : let s := { runUpdating with agenda := [.reset true] }
    let u := { runIdle with agenda := [.powerCycle false 0] }
    configValid s.cfg = true ∧ s.agenda = .reset true :: [] ∧ u.agenda = .powerCycle false 0 :: [] ∧ u.phase ≠ .boot := by decide

/-- BootComesBeforeEverythingElse: each clause. -/
theorem witness_boot_first : let s := { State.reset with agenda := [.ovf] }
    let u := { State.reset with agenda := [rd Config.default 0x10] }
    let v := { State.reset with agenda := [.storeWrite 3 9] }
    configValid s.cfg = true ∧ s.phase = .boot ∧ s.agenda = .ovf :: [] ∧ u.agenda = .read .b4 0x10 :: [] ∧
    (Event.read .b4 0x10).waitsForBoot = true ∧ v.agenda = .storeWrite 3 9 :: [] ∧
    (Event.storeWrite 3 9).waitsForBoot = true := by decide

/-- TornBootWriteMixesBytes: every byte old, and a mix. -/
theorem witness_torn : let s := { State.reset with agenda := [.powerCycle true 0b0101] }
    configValid s.cfg = true ∧ Memory.wf s = true ∧ s.phase = .boot ∧ s.agenda = .powerCycle true 0b0101 :: [] := by decide

/-- InvalidConfigurationHasNoStep, a bound broken by one, and a seed one byte past the store; ValidConfigurationIsNeverRefused, at the
bounds. -/
theorem witness_config : ¬({ Config.default with reload := 65536 } : Config).reload ≤ 65535 ∧
    ¬({ Config.default with seedAddr := 1 } : Config).seedAddr + 4 ≤ Config.default.storeSize ∧
    configValid { Config.default with reload := 65535, mapDiv := 32767, wind := 255 } = true ∧
    (∀ k ∈ [FilterCfg.bw60.cIn, FilterCfg.bw60.c1, FilterCfg.bw60.c2, FilterCfg.bw60.cB1, FilterCfg.bw60.cB2],
      -32768 ≤ k ∧ k ≤ 32767) ∧ Config.default.seedAddr + 4 ≤ Config.default.storeSize := by decide

/-- OverflowStepCountsDown: an expiry in RUN mode, TEST mode, and phase BOOT. -/
theorem witness_overflow : let s := { runIdle with agenda := [.ovf], cnt := 1 }
    let u := { testIdle with agenda := [.ovf] }
    State.reset.phase = .boot ∧ State.reset.cnt ≠ 0 ∧
    configValid s.cfg = true ∧ s.agenda = .ovf :: [] ∧ s.phase ≠ .boot ∧ s.cnt ≠ 0 ∧ s.mode = .run ∧
    u.agenda = .ovf :: [] ∧ u.phase ≠ .boot ∧ u.cnt ≠ 0 ∧ u.mode = .test := by decide

/-- ObserveAndClearIsOneStep, ExpiryAndObserveDoNotCommute, PendingTickLeadsToOneUpdate. -/
theorem witness_pending : let s := { runIdle with tick := true, cnt := 1, agenda := [.ovf, .seq, .ovf, .seq] }
    let u := { runIdle with tick := true, agenda := [.seq] }
    configValid s.cfg = true ∧ s.mode = .run ∧ s.phase = .idle ∧ s.tick = true ∧ s.cnt = 1 ∧
    (∀ e ∈ [Event.ovf], e.passive = true) ∧ s.agenda = [.ovf] ++ .seq :: ([.ovf] ++ .seq :: []) ∧
    u.agenda = .seq :: [] ∧ u.tick = true ∧ u.phase = .idle ∧ u.mode = .run := by decide

/-- UpdateCycleIsOneStep, OverflowCommutesWithUpdateCycle. -/
theorem witness_updating : let s := { runUpdating with agenda := [.seq] }
    configValid s.cfg = true ∧ s.agenda = .seq :: [] ∧ s.mode = .run ∧ s.phase = .updating := by decide

/-- SequencerWaitsForATick, TestModeStopsSchedulerAndTimer. -/
theorem witness_waits : runIdle.agenda = [] ∧ runIdle.tick = false ∧ runIdle.phase = .idle ∧ runIdle.mode = .run ∧
    ({ runIdle with agenda := [.seq] } : State).agenda = .seq :: [] ∧ testIdle.agenda = [] ∧ testIdle.phase = .idle ∧
    testIdle.mode = .test := by decide

/-- TestCommandsAreTheSchedulersTwins: each clause. -/
theorem witness_twins : let s := { runUpdating with agenda := [.seq] }
    let u := { runIdle with agenda := [.ovf] }
    let v := { runIdle with agenda := [.seq], tick := true }
    configValid s.cfg = true ∧ s.mode = .run ∧ s.phase = .updating ∧ u.phase ≠ .boot ∧ v.phase = .idle ∧ v.tick = true ∧
    (answers (exec .update { s with mode := .test }) ∧ answers (exec .ovf { u with mode := .test }) ∧
      answers (exec .take { v with mode := .test })) := by decide

/-- TickCadence and MergedTicksGiveOneUpdate: two whole periods. -/
theorem witness_cadence : let s := { runIdle with agenda := List.replicate (2 * 16) Event.ovf ++ (List.replicate 4 Event.seq ++ []) }
    configValid s.cfg = true ∧ s.mode = .run ∧ s.phase = .idle ∧ s.tick = false ∧ s.cnt.toNat = s.cfg.reload ∧
    s.agenda = List.replicate (2 * s.cfg.reload) .ovf ++ (List.replicate 4 .seq ++ []) := by decide

/-- TickCadence: overflow steps with turns and accesses between them, an expiry coming next, and a counter loaded by a reset. -/
theorem witness_cadence_mixed : let es : List Event := List.replicate 15 Event.ovf ++ [.seq, rd Config.default 0x1C]
    let s := { runIdle with agenda := es ++ [Event.ovf] }
    let u := { testIdle with agenda := Event.reset false :: .seq :: es }
    configValid s.cfg = true ∧ s.mode = .run ∧ s.phase ≠ .boot ∧ s.cnt.toNat = s.cfg.reload ∧
    (∀ e ∈ es, e = .seq ∨ e.passive = true) ∧ s.agenda = es ++ [Event.ovf] ∧ (es.count Event.ovf + 1) % s.cfg.reload = 0 ∧
    configValid u.cfg = true ∧ u.agenda = .reset false :: .seq :: es ∧
    s.cfg.reload = Config.defaultReload s.cfg.ovfRate s.cfg.updateRate := by decide

/-- UpdatesNeverOutnumberExpiries. -/
theorem witness_counts : runIdle.tick = false ∧ runIdle.phase ≠ .updating := by decide

/-- ThreeTurnsReachTheWait. -/
theorem witness_three_turns : let s := { runIdle with agenda := seqUntilWait ++ [] }
    s.Inv ∧ s.agenda = seqUntilWait ++ [] := by
  refine ⟨?_, rfl⟩
  constructor
  case duty => exact .inl rfl
  case boot => exact fun h => absurd h (by decide)
  all_goals decide

/-- The statements about a step that answers: LfsrMovesOnlyByItsStep, ModeChangesOnlyAtReset, StoreChangesOnlyAtBoot, ErrorFlagIsSticky,
DutyLatchFollowsThePort, RunModeRegistersHaveOneWriter. -/
theorem witness_steps : let s := { runUpdating with agenda := [.seq] }
    (∃ t, step s = .next t) ∧ s.mode = .run ∧ s.phase ≠ .boot ∧ (∀ e ∈ s.agenda.head?, e.resets = false) :=
  ⟨⟨_, rfl⟩, rfl, by decide, by decide⟩

/-- The reset and power-cycle clauses of those statements. -/
theorem witness_reset_steps : (∃ t, step { runIdle with agenda := [.reset true] } = .next t) ∧
    (∃ t, step { State.reset with agenda := [.powerCycle false 3] } = .next t) ∧ (Event.reset true).resets = true := by
  exact ⟨⟨_, rfl⟩, ⟨_, rfl⟩, rfl⟩

/-- ErrorFlagIsSticky: an illegal write over an error already there, a clear, and a step of neither kind. -/
theorem witness_error : let s := { testIdle with err := true, cause := 2, agenda := [.write .b4 0 0x00002900] }
    let u := { testIdle with err := true, cause := 5, agenda := [.write .b4 0x0C 8] }
    (∃ t, step s = .next t) ∧ s.phase ≠ .boot ∧ s.agenda = .write .b4 s.cfg.winBase 0x00002900 :: [] ∧
    decode s.mode 0x00002900 = .illegal .drawRange ∧
    (∃ t, step u = .next t) ∧ u.agenda = .write .b4 (u.cfg.winBase + 0x0C) 8 :: [] ∧ (8 : Word).getLsbD 3 = true ∧
    (∀ e ∈ s.agenda.head?, e.resets = false) :=
  ⟨⟨_, rfl⟩, by decide, rfl, by decide, ⟨_, rfl⟩, rfl, by decide, by decide⟩

/-- RunModeHostOnlyObserves: a CMD write and a clear. -/
theorem witness_run_access : let s := { runIdle with agenda := [wr Config.default 0x00 0x00001000] }
    configValid s.cfg = true ∧ s.mode = .run ∧ s.phase ≠ .boot ∧ s.agenda = .write .b4 0 0x00001000 :: [] ∧
    (Event.write .b4 0 0x00001000).isAccess = true ∧
    ({ s with agenda := [clrErr Config.default] } : State).agenda = .write .b4 (s.cfg.winBase + 0x0C) 8 :: [] ∧
    (clrErr Config.default).isAccess = true := by decide

/-- RunModeAccessesDoNotInterfere. -/
theorem witness_interfere : ∀ e ∈ [Event.seq, .ovf, .read .b4 0x10, .write .b4 0 0, .seq], e = .seq ∨ e.passive = true := by decide

/-- WindowReadsShowTheRegisters at the first, the last and the STATUS offset, and WindowIsLittleEndian at the last byte. -/
theorem witness_reads : let s := { testIdle with agenda := [.read .b4 (0 + 0x3C)], err := true, cause := 5 }
    configValid s.cfg = true ∧ s.phase ≠ .boot ∧ s.agenda = .read .b4 (s.cfg.winBase + 0x3C) :: [] ∧
    s.agenda = .read .b4 (s.cfg.winBase + (63 - 63 % 4)) :: [] ∧ 63 < 64 ∧ 7 < 8 := by decide

/-- WindowWritesOtherThanCmd: ARG, STATUS with bit 3 set, and the last offset. -/
theorem witness_writes : let s := { testIdle with agenda := [.write .b4 0x0C 0x00000008] }
    let u := { testIdle with agenda := [.write .b4 0x04 7] }
    let v := { testIdle with agenda := [.write .b4 0x3C 7] }
    configValid s.cfg = true ∧ s.phase ≠ .boot ∧ s.agenda = .write .b4 (s.cfg.winBase + 0x0C) 8 :: [] ∧
    (8 : Word).getLsbD 3 = true ∧ u.agenda = .write .b4 (u.cfg.winBase + 0x04) 7 :: [] ∧
    v.agenda = .write .b4 (v.cfg.winBase + 0x3C) 7 :: [] ∧ 0x3C % 4 = 0 := by decide

/-- IllegalAccessGetsBusError: a straddling 8-byte access at the last word; AccessOutsideTheWindowIsNotTheBlocks: the first address past
the end. -/
theorem witness_bus : let s := { testIdle with agenda := [.read .b8 0x3C] }
    let u := { testIdle with agenda := [.read .b4 0x40] }
    configValid s.cfg = true ∧ s.phase ≠ .boot ∧ s.cfg.winBase < 0x3C + widthBytes .b8 ∧ 0x3C < s.cfg.winBase + 0x40 ∧
    ¬(Width.b8 = .b4 ∧ 0x3C % 4 = 0 ∧ s.cfg.winBase ≤ 0x3C ∧ 0x3C ≤ s.cfg.winBase + 0x3C) ∧
    s.agenda = .read .b8 0x3C :: [] ∧ u.cfg.winBase + 0x40 ≤ 0x40 ∧ u.agenda = .read .b4 0x40 :: [] := by decide

/-- PseudoOperationsExpand: each clause. -/
theorem witness_pseudo : let s := { testIdle with agenda := mapv Config.default 0xFB53 ++ [] }
    configValid s.cfg = true ∧ s.mode = .test ∧ s.phase = .idle ∧ s.agenda = mapv s.cfg 0xFB53 ++ [] ∧
    ({ s with agenda := [clrErr Config.default] } : State).agenda = clrErr s.cfg :: [] ∧
    ({ s with agenda := [readRes Config.default] } : State).agenda = readRes s.cfg :: [] := by decide

end Sys2Proof.Machine.Tests
end

section
/-! SUPPORT. What a valid configuration is, bound by bound, and which steps of a valid machine answer a next state. -/

namespace Sys2Proof.Machine

/-! ### Validity, bound by bound (R9, R53, R8) -/

theorem coeffValid_iff {k : Int} : coeffValid k = true ↔ -32768 ≤ k ∧ k ≤ 32767 := by
  simp only [coeffValid, decide_eq_true_eq]

theorem shiftValid_iff {k : Nat} : shiftValid k = true ↔ k ≤ 31 := by
  simp only [shiftValid, decide_eq_true_eq]

theorem filterValid_iff {F : FilterCfg} :
    filterValid F = true ↔
      (∀ k ∈ [F.cIn, F.c1, F.c2, F.cB1, F.cB2], -32768 ≤ k ∧ k ≤ 32767) ∧
      (∀ k ∈ [F.sIn, F.s1, F.sZ2, F.s2, F.sB1, F.sB2, F.sOut], k ≤ 31) := by
  simp only [filterValid, Bool.and_eq_true, coeffValid_iff, shiftValid_iff, List.forall_mem_cons, List.not_mem_nil,
    false_imp_iff, implies_true, and_true, and_assoc]

theorem configValid_iff {c : Config} :
    configValid c = true ↔
      (1 ≤ c.reload ∧ c.reload ≤ 65535) ∧ c.wind ≤ 255 ∧ (1 ≤ c.mapDiv ∧ c.mapDiv ≤ 32767) ∧ filterValid c.filter = true ∧
      c.seedAddr + 4 ≤ c.storeSize ∧ c.winBase % 64 = 0 ∧ 1 ≤ c.updateRate ∧ 1 ≤ c.ovfRate.num ∧ 1 ≤ c.ovfRate.den := by
  simp only [configValid, Bool.and_eq_true, decide_eq_true_eq, and_assoc]

/-! ### The guard of the step (R9) -/

theorem step_of_valid {s : State} (h : configValid s.cfg = true) : step s = agendaStep s := if_pos h

theorem step_of_invalid {s : State} (h : configValid s.cfg ≠ true) : step s = .refused .invalidConfig := if_neg h

/-! ### HOST's accesses to the bus always answer (`20_memory.md` R55, R56, `60_exceptions.md` R222) -/

theorem cmdWrite_answers (w : Word) (s : State) : ∃ t, cmdWrite w s = .next t := by
  rcases cmdWrite_cases (w := w) (s := s) rfl with ⟨c, -, h⟩ | ⟨i, -, h⟩
  · exact ⟨_, h⟩
  · rw [h]
    exact exec_answers i s

theorem writeReg_answers (o : Nat) (v : Word) (s : State) : ∃ t, writeReg o v s = .next t := by
  rcases writeReg_cases (o := o) (v := v) (s := s) rfl with ⟨-, h⟩ | ⟨-, h⟩ | ⟨-, -, h⟩ | ⟨-, -, h⟩ | ⟨-, -, -, h⟩
  · rw [h]
    exact cmdWrite_answers v s
  all_goals exact ⟨_, h⟩

theorem hostRead_answers (w : Width) (a : Nat) (s : State) : ∃ t, hostRead w a s = .next t := by
  rcases hostRead_cases (w := w) (a := a) (s := s) rfl with ⟨-, -, h⟩ | ⟨-, -, h⟩ | ⟨-, h⟩ <;> exact ⟨_, h⟩

theorem hostWrite_answers (w : Width) (a : Nat) (v : Word) (s : State) : ∃ t, hostWrite w a v s = .next t := by
  rcases hostWrite_cases (w := w) (a := a) (v := v) (s := s) rfl with ⟨-, -, h⟩ | ⟨-, -, h⟩ | ⟨-, h⟩
  · rw [h]
    exact writeReg_answers _ v _
  · exact ⟨_, h⟩
  · exact ⟨_, h⟩

/-! ### The steps of a valid machine -/

/-- Waiting for the boot step adds no outcome but a next state (`70_reset_and_hazards.md` R251). -/
theorem stalled_answers_or (s : State) (rest : List Event) (k : State → Host.Outcome State Fault Refusal) :
    (∃ t, s.stalled rest k = .next t) ∨ s.stalled rest k = k (s.withAgenda rest) := by
  rcases stalled_cases (s := s) (rest := rest) (k := k) rfl with ⟨-, h⟩ | ⟨-, h⟩
  · exact .inl ⟨_, h⟩
  · exact .inr h

theorem stalled_answers {k : State → Host.Outcome State Fault Refusal} (hk : ∀ u, ∃ t, k u = .next t) (s : State)
    (rest : List Event) : ∃ t, s.stalled rest k = .next t := by
  rcases stalled_answers_or s rest k with h | h
  · exact h
  · rw [h]
    exact hk _

/-- Every event answers a next state, but for HOST's own access to a store byte that does not exist. -/
theorem eventStep_outcome (e : Event) (rest : List Event) (s : State) :
    (∃ t, eventStep e rest s = .next t) ∨
    (∃ a, s.cfg.storeSize ≤ a ∧ eventStep e rest s = .fault (.noStoreByte a) ∧
      (e = .storeRead a ∨ ∃ v, e = .storeWrite a v)) := by
  cases e with
  | seq => exact .inl ⟨_, rfl⟩
  | ovf => exact .inl ⟨_, rfl⟩
  | reset test => exact .inl ⟨_, rfl⟩
  | powerCycle test torn => exact .inl ⟨_, rfl⟩
  | read w a => exact .inl (stalled_answers (hostRead_answers w a) s rest)
  | write w a v => exact .inl (stalled_answers (hostWrite_answers w a v) s rest)
  | storeRead a =>
    rcases stalled_answers_or s rest (hostStoreRead a) with h | h
    · exact .inl h
    · rcases hostStoreRead_cases h.symm with ⟨-, hr⟩ | ⟨ha, hr⟩
      · exact .inl ⟨_, hr⟩
      · exact .inr ⟨a, ha, hr, .inl rfl⟩
  | storeWrite a v =>
    rcases stalled_answers_or s rest (hostStoreWrite a v) with h | h
    · exact .inl h
    · rcases hostStoreWrite_cases h.symm with ⟨-, hr⟩ | ⟨ha, hr⟩
      · exact .inl ⟨_, hr⟩
      · exact .inr ⟨a, ha, hr, .inr ⟨v, rfl⟩⟩

/-- A valid machine's step answers, or HOST accesses a store byte that does not exist. -/
theorem agendaStep_outcome (s : State) :
    (∃ t, agendaStep s = .next t) ∨
    (∃ a, s.cfg.storeSize ≤ a ∧ agendaStep s = .fault (.noStoreByte a) ∧
      (s.agenda.head? = some (.storeRead a) ∨ ∃ v, s.agenda.head? = some (.storeWrite a v))) := by
  cases ha : s.agenda with
  | nil => exact .inl ⟨seqTurn s, by simp only [agendaStep, ha]⟩
  | cons e rest =>
    have hstep : agendaStep s = eventStep e rest s := by simp only [agendaStep, ha]
    simpa only [hstep, List.head?_cons, Option.some.injEq] using eventStep_outcome e rest s

/-! ### The statements -/

/-- Settles O31: a valid configuration meets each bound that the statement names, so one that breaks a bound fails the guard. -/
theorem invalidConfigurationHasNoStep : Obligations.InvalidConfigurationHasNoStep := by
  intro s c F hbroken
  refine step_of_invalid fun hvalid => hbroken ?_
  obtain ⟨hreload, hwind, hdiv, hfilter, hseed, -⟩ := configValid_iff.1 hvalid
  obtain ⟨hcoeffs, hshifts⟩ := filterValid_iff.1 hfilter
  exact ⟨hreload, hwind, hdiv, hcoeffs, hshifts, hseed⟩

/-- Settles O32: the bounds pass the guard, and past it only a store access to a missing byte does not answer. -/
theorem validConfigurationIsNeverRefused : Obligations.ValidConfigurationIsNeverRefused := by
  intro s c F ⟨hreload, hwind, hdiv, hcoeffs, hshifts⟩ hseed hbase hrate hnum hden
  have hvalid : configValid s.cfg = true :=
    configValid_iff.2
      ⟨hreload, hwind, hdiv, filterValid_iff.2 ⟨hcoeffs, hshifts⟩, hseed, hbase, hrate, hnum, hden⟩
  rw [step_of_valid hvalid]
  exact agendaStep_outcome s

/-! ### Runs that meet the hypotheses -/

/-- O31 at a reload value one past its bound. -/
theorem witness_invalid_config_refused :
    step { State.reset with cfg := { Config.default with reload := 65536 } } = .refused .invalidConfig :=
  invalidConfigurationHasNoStep _ (by decide)

/-- O32's fault: HOST reads the byte just past a store of 4 bytes. -/
theorem witness_missing_store_byte_faults :
    step { State.reset with phase := .idle, agenda := [.storeRead 4] } = .fault (.noStoreByte 4) := rfl

end Sys2Proof.Machine
end

section
/-! SUPPORT. The LFSR never becomes 0 (`10_state.md` R24, `40_bitsource.md` R111, R113). -/

namespace Sys2Proof.Machine

/-- R111 (a): the feedback constant has bit 31, which a shifted state has not; and a non-zero even state shifts to a non-zero one. -/
theorem lfsrStep_ne_zero {w : Word} (hw : w ≠ 0) : (lfsrStep w).1 ≠ 0 := by
  intro h0
  cases hb : w.getLsbD 0 with
  | true =>
    have hstep : (lfsrStep w).1 = w >>> 1 ^^^ poly := by simp only [lfsrStep, hb, if_true]
    have hbit := congrArg (·.getLsbD 31) (hstep.symm.trans h0)
    simp [poly] at hbit
  | false =>
    have hstep : (lfsrStep w).1 = w >>> 1 := by simp only [lfsrStep, hb, Bool.false_eq_true, if_false]
    have heven : w.toNat % 2 = 0 := by
      have hlsb := BitVec.getLsbD_eq_getElem (x := w) (i := 0) (by omega) ▸ hb
      rw [BitVec.getElem_eq_testBit_toNat, Nat.testBit_zero, decide_eq_false_iff_not] at hlsb
      omega
    have hhalf := congrArg BitVec.toNat (hstep.symm.trans h0)
    rw [BitVec.toNat_ushiftRight, Nat.shiftRight_eq_div_pow] at hhalf
    exact hw (BitVec.eq_of_toNat_eq (by simp at hhalf ⊢; omega))

theorem drawLoop_ne_zero (n : Nat) {p : Word × Nat} (hp : p.1 ≠ 0) : (drawLoop n p).1 ≠ 0 := by
  induction n generalizing p with
  | zero => exact hp
  | succ n ih => exact ih (lfsrStep_ne_zero hp)

theorem draw_ne_zero {w : Word} (hw : w ≠ 0) (n : Nat) : (draw w n).1 ≠ 0 := drawLoop_ne_zero n hw

theorem binomLoop_ne_zero (n : Nat) {p : Word × Int} (hp : p.1 ≠ 0) : (binomLoop n p).1 ≠ 0 := by
  induction n generalizing p with
  | zero => exact hp
  | succ n ih => exact ih (lfsrStep_ne_zero hp)

theorem normal_ne_zero {w : Word} (hw : w ≠ 0) : (normal w).1 ≠ 0 :=
  draw_ne_zero (draw_ne_zero (binomLoop_ne_zero 16 (p := (w, -128)) hw) 4) 4

/-- R113: under either policy the adjusted seed is not 0. -/
theorem seedAdjust_ne_zero (policy : SeedAdvance) (v : Word) : seedAdjust policy v ≠ 0 := by
  cases policy with
  | always =>
    simp only [seedAdjust]
    split_ifs with h
    · rw [h]
      decide
    · exact h
  | ifZero =>
    simp only [seedAdjust]
    split_ifs with h
    · rw [h]
      decide
    · exact h

end Sys2Proof.Machine
end

section
/-! SUPPORT. The words that decode (`30_encoding.md` R80, R84, R86). -/

namespace Sys2Proof

/-- A word is the concatenation of its fields (R80). -/
theorem fields_append (w : Word) : rsvField w ++ opField w ++ nField w ++ immField w = w := by
  simp only [rsvField, opField, nField, immField]
  rw [BitVec.extractLsb'_append_extractLsb'_eq_extractLsb' (by rfl), BitVec.extractLsb'_append_extractLsb'_eq_extractLsb' (by rfl),
    BitVec.extractLsb'_append_extractLsb'_eq_extractLsb' (by rfl)]
  exact BitVec.extractLsb'_eq_self

/-- A word with `RSV = 0` is the packing of its other fields. -/
theorem packWord_fields {w : Word} (h : rsvField w = 0) : packWord (opField w) (nField w) (immField w) = w := by
  conv_rhs => rw [← fields_append w, h]
  rfl

/-- Only TEST mode decodes a command. -/
theorem mode_of_decode_op {m : Mode} {w : Word} {i : Instr} (h : decode m w = .op i) : m = .test := by
  cases m with
  | run => simp [decode] at h
  | test => rfl

/-- R86, read backwards: what a word that decodes to a command passed. -/
theorem fields_of_decode_op {m : Mode} {w : Word} {i : Instr} (h : decode m w = .op i) :
    rsvField w = 0 ∧ (opField w = 0x2 → (nField w).toNat ≤ 8) ∧ (opField w ≠ 0x2 → nField w = 0) ∧
      (opField w ≠ 0x4 → immField w = 0) ∧ decodeOp w = .op i := by
  unfold decode at h
  split_ifs at h with hm hr ho hd hn hi
  refine ⟨not_not.1 hr, fun h2 => ?_, fun h2 => ?_, fun h4 => ?_, h⟩
  · exact Nat.not_lt.1 fun h8 => hd ⟨h2, h8⟩
  · exact not_not.1 fun h0 => hn ⟨h2, h0⟩
  · exact not_not.1 fun h0 => hi ⟨h4, h0⟩

/-- A word that passed R86's checks carries the fields of the command that the opcode map gives it. -/
theorem fields_of_decodeOp {w : Word} {i : Instr} (h : decodeOp w = .op i) (hn : opField w ≠ 0x2 → nField w = 0)
    (himm : opField w ≠ 0x4 → immField w = 0) :
    i.opcode = opField w ∧ i.countField = nField w ∧ i.immediateField = immField w := by
  unfold decodeOp at h
  split at h <;> simp only [Decoded.op.injEq, reduceCtorEq] at h
  all_goals
    rename_i hop
    replace hop := congrArg (BitVec.ofNat 4) hop
    rw [BitVec.ofNat_toNat, BitVec.setWidth_eq] at hop
    subst h
    rw [hop] at hn himm ⊢
  case h_3 => exact ⟨rfl, rfl, (himm (by decide)).symm⟩
  case h_5 => exact ⟨rfl, (hn (by decide)).symm, rfl⟩
  all_goals exact ⟨rfl, (hn (by decide)).symm, (himm (by decide)).symm⟩

/-- A word that decodes to a command is the command's own word. -/
theorem encode_of_decode_op {m : Mode} {w : Word} {i : Instr} (h : decode m w = .op i) : encode i = w := by
  obtain ⟨hrsv, -, hn, himm, hop⟩ := fields_of_decode_op h
  obtain ⟨h1, h2, h3⟩ := fields_of_decodeOp hop hn himm
  rw [encode, h1, h2, h3, packWord_fields hrsv]

/-- A command that a word decodes to is well formed (R82). -/
theorem wf_of_decode_op {m : Mode} {w : Word} {i : Instr} (h : decode m w = .op i) : i.wf = true := by
  obtain ⟨-, hdraw, hn, himm, hop⟩ := fields_of_decode_op h
  obtain ⟨hcode, hcount, -⟩ := fields_of_decodeOp hop hn himm
  cases i with
  | draw n =>
    refine decide_eq_true ?_
    have hcount : n = nField w := hcount
    rw [hcount]
    exact hdraw hcode.symm
  | nop | step | normal | filter _ | map | update | ovf | take => rfl

end Sys2Proof
end

section
/-! SUPPORT. The machine's invariant, one rule per state operation, and the statements O19 and O20. -/

namespace Sys2Proof.Machine

/-! ### The carriers of HOST's actions and responses -/

theorem State.Inv.withAgenda {s : State} (h : s.Inv) (es : List Event) : (s.withAgenda es).Inv :=
  ⟨h.config, h.store, h.lfsr, h.cnt, h.phase, h.cause, h.res, h.boot, h.duty⟩

theorem State.Inv.respond {s : State} (h : s.Inv) (r : Resp) : (s.respond r).Inv :=
  ⟨h.config, h.store, h.lfsr, h.cnt, h.phase, h.cause, h.res, h.boot, h.duty⟩

/-! ### Register writes. In phase BOOT most would break R34's values, so they ask for a later phase. -/

theorem State.Inv.setLfsr {s : State} (h : s.Inv) {w : Word} (hw : w ≠ 0) : (s.setLfsr w).Inv :=
  ⟨h.config, h.store, fun _ => hw, h.cnt, h.phase, h.cause, h.res, h.boot, h.duty⟩

theorem State.Inv.setDelays {s : State} (h : s.Inv) (hb : s.phase ≠ .boot) (z : Int × Int) : (s.setDelays z).Inv :=
  ⟨h.config, h.store, h.lfsr, h.cnt, h.phase, h.cause, h.res, fun hp => absurd hp hb, h.duty⟩

theorem State.Inv.setTick {s : State} (h : s.Inv) (hb : s.phase ≠ .boot) (b : Bool) : (s.setTick b).Inv :=
  ⟨h.config, h.store, h.lfsr, h.cnt, h.phase, h.cause, h.res, fun hp => absurd hp hb, h.duty⟩

theorem State.Inv.setCnt {s : State} (h : s.Inv) (hb : s.phase ≠ .boot) {c : BitVec 16}
    (hc : 1 ≤ c.toNat ∧ c.toNat ≤ s.cfg.reload) : (s.setCnt c).Inv :=
  ⟨h.config, h.store, h.lfsr, hc, h.phase, h.cause, h.res, fun hp => absurd hp hb, h.duty⟩

theorem State.Inv.setArg {s : State} (h : s.Inv) (hb : s.phase ≠ .boot) (v : Word) : (s.setArg v).Inv :=
  ⟨h.config, h.store, h.lfsr, h.cnt, h.phase, h.cause, h.res, fun hp => absurd hp hb, h.duty⟩

/-- RES is written in TEST mode only (R256). -/
theorem State.Inv.setRes {s : State} (h : s.Inv) (hb : s.phase ≠ .boot) (hm : s.mode = .test) (v : Word) : (s.setRes v).Inv :=
  ⟨h.config, h.store, h.lfsr, h.cnt, h.phase, h.cause, fun hr => absurd (hm.symm.trans hr) nofun,
    fun hp => absurd hp hb, h.duty⟩

/-- A port write leaves the latch at the value it drove (R29, R163). -/
theorem State.Inv.dutyWrite {s : State} (h : s.Inv) (hb : s.phase ≠ .boot) (d : Byte) : (s.dutyWrite d).Inv :=
  ⟨h.config, h.store, h.lfsr, h.cnt, h.phase, h.cause, h.res, fun hp => absurd hp hb, .inr rfl⟩

/-- The phase moves between IDLE and UPDATING, and to UPDATING in RUN mode only (R173, R175). -/
theorem State.Inv.setPhase {s : State} (h : s.Inv) (hb : s.phase ≠ .boot) {p : Phase} (hp : p ≠ .boot)
    (hm : p = .updating → s.mode = .run) : (s.setPhase p).Inv :=
  ⟨h.config, h.store, fun _ => h.lfsr hb, h.cnt, hm, h.cause, h.res, fun hp' => absurd hp' hp, h.duty⟩

/-- The codes of the causes are 1 to 5 (`60_exceptions.md` R220). -/
theorem causeCode_range (c : Cause) : causeCode c ≠ 0 ∧ (causeCode c).toNat ≤ 5 := by
  cases c <;> decide

theorem State.Inv.raiseIllegal {s : State} (h : s.Inv) (hb : s.phase ≠ .boot) (c : Cause) : (s.raiseIllegal c).Inv where
  config := h.config
  store := h.store
  lfsr := h.lfsr
  cnt := h.cnt
  phase := h.phase
  cause := ⟨iff_of_false nofun (causeCode_range c).1, (causeCode_range c).2⟩
  res := h.res
  boot hp := absurd hp hb
  duty := h.duty

theorem State.Inv.clearErr {s : State} (h : s.Inv) (hb : s.phase ≠ .boot) : s.clearErr.Inv where
  config := h.config
  store := h.store
  lfsr := h.lfsr
  cnt := h.cnt
  phase := h.phase
  cause := ⟨iff_of_true rfl rfl, Nat.zero_le 5⟩
  res := h.res
  boot hp := absurd hp hb
  duty := h.duty

theorem State.Inv.setStoreByte {s : State} (h : s.Inv) {a : Nat} (ha : a < s.cfg.storeSize) (v : Byte) :
    (s.setStoreByte a v).Inv :=
  ⟨h.config, wf_setStoreByte h.store ha v, h.lfsr, h.cnt, h.phase, h.cause, h.res, h.boot, h.duty⟩

/-! ### Reset and the sequencer's turn -/

/-- The reload value is in the counter's range (`10_state.md` R27). -/
theorem reload_range {c : Config} (h : configValid c = true) :
    1 ≤ (BitVec.ofNat 16 c.reload).toNat ∧ (BitVec.ofNat 16 c.reload).toNat ≤ c.reload := by
  rw [reload_toNat h]
  exact ⟨(configValid_bounds h).1.1, le_rfl⟩

/-- A reset establishes the invariant from a valid configuration and a canonical store (`10_state.md` R34). -/
theorem inv_resetBlock {s : State} (hc : configValid s.cfg = true) (hs : Memory.wf s = true) (test : Bool) :
    (resetBlock test s).Inv where
  config := hc
  store := hs
  lfsr hp := absurd rfl hp
  cnt := reload_range hc
  phase hp := nomatch hp
  cause := ⟨iff_of_true rfl rfl, Nat.zero_le 5⟩
  res _ := rfl
  boot _ := ⟨rfl, rfl, rfl, reload_toNat hc, rfl, rfl, rfl, rfl, rfl⟩
  duty := .inl rfl

/-- R53: the seed word lies inside the store. -/
theorem State.Inv.seed_in_store {s : State} (h : s.Inv) : s.cfg.seedAddr + 4 ≤ s.cfg.storeSize := by
  obtain ⟨-, -, -, hseed, -⟩ := configValid_bounds h.config
  exact hseed

/-- Power lost at any moment leaves a canonical store (`20_memory.md` R54), and the power-up is a reset. -/
theorem State.Inv.powerCycle {s : State} (h : s.Inv) (test : Bool) (torn : BitVec 4) : (powerCycle test torn s).Inv := by
  unfold Machine.powerCycle
  split_ifs
  · refine inv_resetBlock ?_ (wf_seedWriteSome h.store h.seed_in_store torn _) test
    rw [State.seedWriteSome_cfg]
    exact h.config
  · exact inv_resetBlock h.config h.store test

/-- The boot step loads a non-zero seed (R113); every other register keeps its reset value. -/
theorem State.Inv.bootStep {s : State} (h : s.Inv) : (bootStep s).Inv where
  config := by rw [bootStep_cfg]; exact h.config
  store := wf_bootStep h.store h.seed_in_store
  lfsr _ := seedAdjust_ne_zero _ _
  cnt := by rw [bootStep_cnt, bootStep_cfg]; exact h.cnt
  phase hp := nomatch hp
  cause := by rw [bootStep_err, bootStep_cause]; exact h.cause
  res := by rw [bootStep_mode, bootStep_res]; exact h.res
  boot hp := nomatch hp
  duty := by rw [bootStep_duty, bootStep_cfg, bootStep_port]; exact h.duty

theorem State.Inv.updateApply {s : State} (h : s.Inv) (hb : s.phase ≠ .boot) : (updateApply s).1.Inv :=
  ((h.setLfsr (normal_ne_zero (h.lfsr hb))).setDelays hb _).dutyWrite hb _

theorem State.Inv.seqTurn {s : State} (h : s.Inv) : (seqTurn s).Inv := by
  rcases seqTurn_cases s with ⟨-, ht⟩ | ⟨hp, hm, -, ht⟩ | ⟨hp, -, ht⟩ | ⟨-, -, ht⟩ <;> rw [ht]
  · exact h.bootStep
  · have hb : s.phase ≠ .boot := by rw [hp]; decide
    exact (h.setTick hb false).setPhase hb (by decide) fun _ => hm
  · have hb : s.phase ≠ .boot := by rw [hp]; decide
    exact (h.updateApply hb).setPhase hb (by decide) nofun
  · exact h

/-! ### The timer -/

/-- The counter stays in 1 .. RELOAD: it is reloaded where a decrement would make it 0 (`10_state.md` R27, `44_scheduler.md` R170). -/
theorem State.Inv.ovfApply {s : State} (h : s.Inv) (hb : s.phase ≠ .boot) : (ovfApply s).Inv := by
  rcases ovfApply_cases s with ⟨-, ht⟩ | ⟨hne, ht⟩ <;> rw [ht]
  · exact (h.setCnt hb (reload_range h.config)).setTick hb true
  · refine h.setCnt hb (c := s.cnt - 1) ?_
    have hcnt := h.cnt
    have hdec : (s.cnt - 1).toNat = s.cnt.toNat - 1 := by bv_omega
    have hne1 : s.cnt.toNat ≠ 1 := fun h1 => hne (BitVec.eq_of_toNat_eq h1)
    omega

theorem State.Inv.overflowStep {s : State} (h : s.Inv) : (overflowStep s).Inv := by
  rcases overflowStep_cases s with ⟨-, hb, ht⟩ | ⟨-, ht⟩ <;> rw [ht]
  · exact h.ovfApply hb
  · exact h

/-! ### Commands and HOST's accesses -/

/-- A command run in TEST mode, or made illegal by RUN mode, keeps the invariant if its effect does. -/
theorem State.Inv.inTest {s e t : State} (h : s.Inv) (hb : s.phase ≠ .boot) (he : s.mode = .test → e.Inv)
    (ht : s.inTest e = .next t) : t.Inv := by
  rcases inTest_cases ht with ⟨hm, rfl⟩ | ⟨-, rfl⟩
  · exact he hm
  · exact h.raiseIllegal hb _

theorem State.Inv.exec {s t : State} (h : s.Inv) (hb : s.phase ≠ .boot) {i : Instr} (ht : exec i s = .next t) : t.Inv := by
  have hl := h.lfsr hb
  cases i with
  | nop => exact h.inTest hb (fun _ => h) ht
  | step => exact h.inTest hb (fun hm => (h.setLfsr (lfsrStep_ne_zero hl)).setRes hb hm _) ht
  | draw n =>
    refine h.inTest hb (fun hm => ?_) ht
    split_ifs
    · exact (h.setLfsr (draw_ne_zero hl _)).setRes hb hm _
    · exact h.raiseIllegal hb _
  | normal => exact h.inTest hb (fun hm => (h.setLfsr (normal_ne_zero hl)).setRes hb hm _) ht
  | filter x => exact h.inTest hb (fun hm => (h.setDelays hb _).setRes hb hm _) ht
  | map => exact h.inTest hb (fun hm => h.setRes hb hm _) ht
  | update => exact h.inTest hb (fun hm => (h.updateApply hb).setRes hb hm _) ht
  | ovf => exact h.inTest hb (fun _ => h.ovfApply hb) ht
  | take => exact h.inTest hb (fun hm => (h.setRes hb hm (zextBit s.tick)).setTick hb false) ht

theorem State.Inv.cmdWrite {s t : State} (h : s.Inv) (hb : s.phase ≠ .boot) {w : Word} (ht : cmdWrite w s = .next t) : t.Inv := by
  rcases cmdWrite_cases ht with ⟨c, -, he⟩ | ⟨i, -, he⟩
  · injection he with he
    exact he ▸ h.raiseIllegal hb c
  · exact h.exec hb he.symm

theorem State.Inv.writeReg {s t : State} (h : s.Inv) (hb : s.phase ≠ .boot) {o : Nat} {v : Word} (ht : writeReg o v s = .next t) :
    t.Inv := by
  rcases writeReg_cases ht with ⟨-, he⟩ | ⟨-, he⟩ | ⟨-, -, he⟩ | ⟨-, -, he⟩ | ⟨-, -, -, he⟩
  · exact h.cmdWrite hb he.symm
  all_goals injection he with he; rw [he]
  · exact h.setArg hb v
  · exact h.clearErr hb
  · exact h
  · exact h

theorem State.Inv.hostRead {s t : State} (h : s.Inv) {w : Width} {a : Nat} (ht : hostRead w a s = .next t) : t.Inv := by
  rcases hostRead_cases ht with ⟨-, -, he⟩ | ⟨-, -, he⟩ | ⟨-, he⟩ <;> injection he with he <;> rw [he] <;> exact h.respond _

theorem State.Inv.hostWrite {s t : State} (h : s.Inv) (hb : s.phase ≠ .boot) {w : Width} {a : Nat} {v : Word}
    (ht : hostWrite w a v s = .next t) : t.Inv := by
  rcases hostWrite_cases ht with ⟨-, -, he⟩ | ⟨-, -, he⟩ | ⟨-, he⟩
  · exact (h.respond .written).writeReg hb he.symm
  all_goals injection he with he; rw [he]; exact h.respond _

theorem State.Inv.hostStoreRead {s t : State} (h : s.Inv) {a : Nat} (ht : hostStoreRead a s = .next t) : t.Inv := by
  rcases hostStoreRead_cases ht with ⟨-, he⟩ | ⟨-, he⟩
  · injection he with he
    exact he ▸ h.respond _
  · nomatch he

theorem State.Inv.hostStoreWrite {s t : State} (h : s.Inv) {a : Nat} {v : Byte} (ht : hostStoreWrite a v s = .next t) : t.Inv := by
  rcases hostStoreWrite_cases ht with ⟨ha, he⟩ | ⟨-, he⟩
  · injection he with he
    exact he ▸ (h.setStoreByte ha v).respond _
  · nomatch he

/-! ### The statements -/

/-- Settles O19: each thing that a step can do keeps the invariant. -/
theorem everyStepKeepsTheInvariant : Obligations.EveryStepKeepsTheInvariant := by
  intro s t h hstep
  obtain ⟨-, ⟨-, rfl⟩ | ⟨e, rest, -, hevent⟩⟩ := step_cases hstep
  · exact h.seqTurn
  · have h' := h.withAgenda rest
    rcases hevent with ⟨-, rfl⟩ | ⟨-, rfl⟩ | ⟨test, -, rfl⟩ | ⟨test, torn, -, rfl⟩ | ⟨-, -, rfl⟩ | ⟨hb, haccess⟩
    · exact h'.seqTurn
    · exact h'.overflowStep
    · exact inv_resetBlock h'.config h'.store test
    · exact h'.powerCycle test torn
    · exact h.bootStep
    · rcases haccess with ⟨w, a, -, ht⟩ | ⟨w, a, v, -, ht⟩ | ⟨a, -, ht⟩ | ⟨a, v, -, ht⟩
      · exact h'.hostRead ht
      · exact h'.hostWrite hb ht
      · exact h'.hostStoreRead ht
      · exact h'.hostStoreWrite ht

/-- Settles O20: the reset state is what a reset makes of the default configuration and a blank store. -/
theorem resetMeetsTheInvariant : Obligations.ResetMeetsTheInvariant :=
  inv_resetBlock (s := { State.reset with draws := 0 }) configValid_default wf_reset false

end Sys2Proof.Machine
end

section
/-! SUPPORT. Who writes the mode, the error flag and the duty latch (`10_state.md` R21, R29 to R31): once, everything a step can do to
them, and the statements O47, O49 and O50. -/

namespace Sys2Proof.Machine

/-! ### The configuration, the mode, the error flag with its cause, and the duty latch with its port -/

/-- The fields whose writers R21, R29, R30 and R31 name: compared as one value, so that what leaves them alone is one equation. -/
structure Control where
  cfg : Config
  mode : Mode
  err : Bool
  cause : BitVec 4
  duty : Byte
  port : List Byte

def State.control (s : State) : Control := ⟨s.cfg, s.mode, s.err, s.cause, s.duty, s.port⟩

@[simp] theorem withAgenda_control (s : State) (es : List Event) : (s.withAgenda es).control = s.control := rfl

@[simp] theorem bootStep_control (s : State) : (bootStep s).control = s.control := by
  simp [State.control]

@[simp] theorem ovfApply_control (s : State) : (ovfApply s).control = s.control := by
  rcases ovfApply_cases s with ⟨-, h⟩ | ⟨-, h⟩ <;> rw [h] <;> rfl

@[simp] theorem overflowStep_control (s : State) : (overflowStep s).control = s.control := by
  rcases overflowStep_cases s with ⟨-, -, h⟩ | ⟨-, h⟩ <;> rw [h]
  exact ovfApply_control s

/-- Power lost in the boot write changes the store only, so the power-up acts as a reset. -/
theorem powerCycle_control (test : Bool) (torn : BitVec 4) (s : State) :
    (powerCycle test torn s).control = (resetBlock test s).control := by
  unfold powerCycle
  split_ifs
  · simp [State.control]
  · rfl

/-- SEQ's turn drives the port in an update cycle (R173), and otherwise leaves these fields alone. -/
theorem seqTurn_control (s : State) :
    (seqTurn s).control = s.control ∨
    (s.mode = .run ∧ s.phase = .updating ∧ ∃ d, (seqTurn s).control = (s.dutyWrite d).control) := by
  rcases seqTurn_cases s with ⟨-, h⟩ | ⟨-, -, -, h⟩ | ⟨hp, hm, h⟩ | ⟨-, -, h⟩ <;> rw [h]
  · exact .inl (bootStep_control s)
  · exact .inl rfl
  · exact .inr ⟨hm, hp, (updateApply s).2, rfl⟩
  · exact .inl rfl

/-! ### Commands -/

/-- In TEST mode UPDATE drives the port, and every other well-formed command leaves these fields alone. -/
theorem exec_control {i : Instr} {s t : State} (hm : s.mode = .test) (hwf : i.wf = true) (h : exec i s = .next t) :
    t.control = s.control ∨ (i = .update ∧ ∃ d, t.control = (s.dutyWrite d).control) := by
  have effect_of : ∀ {e : State}, s.inTest e = .next t → t = e := fun ht => by
    rw [inTest_test hm] at ht
    injection ht with ht
    exact ht.symm
  cases i with
  | nop | step | normal | filter _ | map | take =>
    rw [effect_of h]
    exact .inl rfl
  | draw n =>
    have hn : n.toNat ≤ 8 := of_decide_eq_true hwf
    rw [effect_of h, if_pos hn]
    exact .inl rfl
  | update =>
    rw [effect_of h]
    exact .inr ⟨rfl, (updateApply s).2, rfl⟩
  | ovf =>
    rw [effect_of h]
    exact .inl (ovfApply_control s)

theorem cmdWrite_of_illegal {w : Word} {s : State} {c : Cause} (h : decode s.mode w = .illegal c) :
    cmdWrite w s = .next (s.raiseIllegal c) := by
  simp only [cmdWrite, h]

/-- A CMD write raises its cause, or drives the port if it is UPDATE's word, or leaves these fields alone (`45_command_port.md` R190). -/
theorem cmdWrite_control {w : Word} {s t : State} (h : cmdWrite w s = .next t) :
    t.control = s.control ∨
    (s.mode = .test ∧ w = 0x00006000 ∧ ∃ d, t.control = (s.dutyWrite d).control) ∨
    (∃ c, decode s.mode w = .illegal c ∧ t.control = (s.raiseIllegal c).control) := by
  rcases cmdWrite_cases h with ⟨c, hc, he⟩ | ⟨i, hi, he⟩
  · injection he with he
    exact .inr (.inr ⟨c, hc, he ▸ rfl⟩)
  · have hm := mode_of_decode_op hi
    rcases exec_control hm (wf_of_decode_op hi) he.symm with hk | ⟨rfl, hd⟩
    · exact .inl hk
    · exact .inr (.inl ⟨hm, (encode_of_decode_op hi).symm.trans (by decide), hd⟩)

/-! ### HOST's accesses -/

theorem hostRead_control {w : Width} {a : Nat} {s t : State} (h : hostRead w a s = .next t) : t.control = s.control := by
  rcases hostRead_cases h with ⟨-, -, he⟩ | ⟨-, -, he⟩ | ⟨-, he⟩ <;> injection he with he <;> rw [he] <;> rfl

theorem hostStoreRead_control {a : Nat} {s t : State} (h : hostStoreRead a s = .next t) : t.control = s.control := by
  rcases hostStoreRead_cases h with ⟨-, he⟩ | ⟨-, he⟩
  · injection he with he
    exact he ▸ rfl
  · nomatch he

theorem hostStoreWrite_control {a : Nat} {v : Byte} {s t : State} (h : hostStoreWrite a v s = .next t) :
    t.control = s.control := by
  rcases hostStoreWrite_cases h with ⟨-, he⟩ | ⟨-, he⟩
  · injection he with he
    exact he ▸ rfl
  · nomatch he

/-- What R55 allows. -/
theorem legalAccess_iff {c : Config} {w : Width} {a : Nat} :
    legalAccess c w a = true ↔ w = .b4 ∧ a % 4 = 0 ∧ c.winBase ≤ a ∧ a ≤ c.winBase + 0x3C := by
  simp only [legalAccess, Bool.and_eq_true, decide_eq_true_eq, and_assoc]

theorem touchesWindow_of_legalAccess {c : Config} {w : Width} {a : Nat} (h : legalAccess c w a = true) :
    touchesWindow c w a = true := by
  obtain ⟨rfl, -, hlo, hhi⟩ := legalAccess_iff.1 h
  refine decide_eq_true ⟨?_, by omega⟩
  simp only [widthBytes]
  omega

/-- R202: a write of 1 to STATUS bit 3 clears the error. -/
theorem writeReg_status_clear {v : Word} (s : State) (hv : v.getLsbD 3 = true) : writeReg 0x0C v s = .next s.clearErr := by
  simp only [writeReg, hv, if_true]

/-- A HOST write changes these fields only as a CMD write, or as a write of 1 to STATUS bit 3 (R31, R202). -/
theorem hostWrite_control {w : Width} {a : Nat} {v : Word} {s t : State} (h : hostWrite w a v s = .next t) :
    t.control = s.control ∨
    (w = .b4 ∧ a = s.cfg.winBase ∧ s.mode = .test ∧ v = 0x00006000 ∧ ∃ d, t.control = (s.dutyWrite d).control) ∨
    (w = .b4 ∧ a = s.cfg.winBase ∧ ∃ c, decode s.mode v = .illegal c ∧ t.control = (s.raiseIllegal c).control) ∨
    (w = .b4 ∧ a = s.cfg.winBase + 0x0C ∧ v.getLsbD 3 = true ∧ t.control = s.clearErr.control) := by
  rcases hostWrite_cases h with ⟨-, hl, he⟩ | ⟨-, -, he⟩ | ⟨-, he⟩
  · obtain ⟨hw, -, hlo, -⟩ := legalAccess_iff.1 hl
    rcases writeReg_cases he.symm with ⟨ho, hr⟩ | ⟨-, hr⟩ | ⟨ho, hv, hr⟩ | ⟨-, -, hr⟩ | ⟨-, -, -, hr⟩
    · have ha : a = s.cfg.winBase := by omega
      rcases cmdWrite_control hr.symm with hk | ⟨hm, hv, hd⟩ | ⟨c, hc, hk⟩
      · exact .inl hk
      · exact .inr (.inl ⟨hw, ha, hm, hv, hd⟩)
      · exact .inr (.inr (.inl ⟨hw, ha, c, hc, hk⟩))
    all_goals injection hr with hr
    · exact .inl (hr ▸ rfl)
    · exact .inr (.inr (.inr ⟨hw, by omega, hv, hr ▸ rfl⟩))
    · exact .inl (hr ▸ rfl)
    · exact .inl (hr ▸ rfl)
  all_goals
    injection he with he
    exact .inl (he ▸ rfl)

/-- After the boot step, HOST's write to the register at offset `o` is the next step (`20_memory.md` R55, `45_command_port.md` R190). -/
theorem step_of_window_write {s : State} {rest : List Event} {o : Nat} {v : Word} (hc : configValid s.cfg = true)
    (hb : s.phase ≠ .boot) (halign : o % 4 = 0) (hin : o ≤ 0x3C) (ha : s.agenda = .write .b4 (s.cfg.winBase + o) v :: rest) :
    step s = writeReg o v ((s.withAgenda rest).respond .written) := by
  obtain ⟨-, -, -, -, hbase⟩ := configValid_bounds hc
  have hlegal : legalAccess s.cfg .b4 (s.cfg.winBase + o) = true := legalAccess_iff.2 ⟨rfl, by omega, by omega, by omega⟩
  calc step s = agendaStep s := step_of_valid hc
    _ = s.stalled rest (hostWrite .b4 (s.cfg.winBase + o) v) := by simp only [agendaStep, ha, eventStep]
    _ = hostWrite .b4 (s.cfg.winBase + o) v (s.withAgenda rest) := if_neg hb
    _ = writeReg (s.cfg.winBase + o - s.cfg.winBase) v ((s.withAgenda rest).respond .written) := by
      simp only [hostWrite, State.withAgenda_cfg, touchesWindow_of_legalAccess hlegal, hlegal, if_true]
    _ = _ := by rw [Nat.add_sub_cancel_left]

/-! ### The step -/

/-- The event that comes next does not reset the block. -/
def State.noReset (s : State) : Prop := ∀ e ∈ s.agenda.head?, e.resets = false

theorem noReset_of_cons {s : State} {e : Event} {rest : List Event} (ha : s.agenda = e :: rest) : s.noReset ↔ e.resets = false := by
  simp [State.noReset, ha]

theorem noReset_of_nil {s : State} (ha : s.agenda = []) : s.noReset := by
  simp [State.noReset, ha]

/-- An access that waits in phase BOOT is no reset (`70_reset_and_hazards.md` R251). -/
theorem resets_of_waitsForBoot {e : Event} (h : e.waitsForBoot = true) : e.resets = false := by
  cases e with
  | read | write | storeRead | storeWrite => rfl
  | seq | ovf | reset | powerCycle => nomatch h

/-- The next step is an update cycle, or HOST's write of UPDATE's word in TEST mode. -/
def State.drives (s : State) : Prop :=
  s.isUpdate = true ∨ (s.mode = .test ∧ ∃ rest, s.agenda = .write .b4 s.cfg.winBase 0x00006000 :: rest)

/-- The next step is a reset that samples the strap as `test`. -/
def State.resetsWith (s : State) (test : Bool) : Prop :=
  (∃ rest, s.agenda = .reset test :: rest) ∨ ∃ torn rest, s.agenda = .powerCycle test torn :: rest

theorem not_noReset_of_resetsWith {s : State} {test : Bool} (h : s.resetsWith test) : ¬s.noReset := by
  rcases h with ⟨rest, ha⟩ | ⟨torn, rest, ha⟩ <;> exact fun hno => nomatch (noReset_of_cons ha).1 hno

/-- The strap is the one that the event carries. -/
theorem resetsWith_reset_iff {s : State} {test test' : Bool} {rest : List Event} (ha : s.agenda = .reset test' :: rest) :
    s.resetsWith test ↔ test = test' := by
  simp [State.resetsWith, ha, eq_comm]

theorem resetsWith_powerCycle_iff {s : State} {test test' : Bool} {torn : BitVec 4} {rest : List Event}
    (ha : s.agenda = .powerCycle test' torn :: rest) : s.resetsWith test ↔ test = test' := by
  simp [State.resetsWith, ha, eq_comm]

theorem drives_of_update {s : State} (h : s.isSeqTurn = true) (hm : s.mode = .run) (hp : s.phase = .updating) : s.drives :=
  .inl (by simp only [State.isUpdate, h, hm, hp, decide_true, Bool.and_self])

/-- Everything a step can do to these fields. -/
theorem step_control {s t : State} (h : step s = .next t) :
    (∃ test, s.resetsWith test ∧ t.control = (resetBlock test s).control) ∨
    (s.noReset ∧
      (t.control = s.control ∨
       (s.drives ∧ ∃ d, t.control = (s.dutyWrite d).control) ∨
       (s.phase ≠ .boot ∧ ∃ w c rest, s.agenda = .write .b4 s.cfg.winBase w :: rest ∧ decode s.mode w = .illegal c ∧
          t.control = (s.raiseIllegal c).control) ∨
       (s.phase ≠ .boot ∧ ∃ v rest, s.agenda = .write .b4 (s.cfg.winBase + 0x0C) v :: rest ∧ v.getLsbD 3 = true ∧
          t.control = s.clearErr.control))) := by
  obtain ⟨-, ⟨ha, rfl⟩ | ⟨e, rest, ha, hevent⟩⟩ := step_cases h
  · refine .inr ⟨noReset_of_nil ha, ?_⟩
    rcases seqTurn_control s with hk | ⟨hm, hp, hd⟩
    · exact .inl hk
    · exact .inr (.inl ⟨drives_of_update (by simp [State.isSeqTurn, ha]) hm hp, hd⟩)
  · rcases hevent with ⟨rfl, rfl⟩ | ⟨rfl, rfl⟩ | ⟨test, rfl, rfl⟩ | ⟨test, torn, rfl, rfl⟩ | ⟨-, hwait, rfl⟩ | ⟨hb, haccess⟩
    · refine .inr ⟨(noReset_of_cons ha).2 rfl, ?_⟩
      rcases seqTurn_control (s.withAgenda rest) with hk | ⟨hm, hp, hd⟩
      · exact .inl hk
      · exact .inr (.inl ⟨drives_of_update (by simp [State.isSeqTurn, ha]) hm hp, hd⟩)
    · exact .inr ⟨(noReset_of_cons ha).2 rfl, .inl (overflowStep_control _)⟩
    · exact .inl ⟨test, .inl ⟨rest, ha⟩, rfl⟩
    · exact .inl ⟨test, .inr ⟨torn, rest, ha⟩, powerCycle_control test torn _⟩
    · exact .inr ⟨(noReset_of_cons ha).2 (resets_of_waitsForBoot hwait), .inl (bootStep_control s)⟩
    · rcases haccess with ⟨w, a, rfl, ht⟩ | ⟨w, a, v, rfl, ht⟩ | ⟨a, rfl, ht⟩ | ⟨a, v, rfl, ht⟩
      · exact .inr ⟨(noReset_of_cons ha).2 rfl, .inl ((hostRead_control ht).trans (withAgenda_control s rest))⟩
      · refine .inr ⟨(noReset_of_cons ha).2 rfl, ?_⟩
        rcases hostWrite_control ht with hk | ⟨rfl, rfl, hm, rfl, hd⟩ | ⟨rfl, rfl, c, hc, hk⟩ | ⟨rfl, rfl, hv, hk⟩
        · exact .inl hk
        · exact .inr (.inl ⟨.inr ⟨hm, rest, ha⟩, hd⟩)
        · exact .inr (.inr (.inl ⟨hb, v, c, rest, ha, hc, hk⟩))
        · exact .inr (.inr (.inr ⟨hb, v, rest, ha, hv, hk⟩))
      · exact .inr ⟨(noReset_of_cons ha).2 rfl, .inl ((hostStoreRead_control ht).trans (withAgenda_control s rest))⟩
      · exact .inr ⟨(noReset_of_cons ha).2 rfl, .inl ((hostStoreWrite_control ht).trans (withAgenda_control s rest))⟩

/-! ### The statements -/

/-- Settles O47: a reset samples the strap, and nothing else that a step does reaches the configuration or the mode. -/
theorem modeChangesOnlyAtReset : Obligations.ModeChangesOnlyAtReset := by
  intro s t hstep
  rcases step_control hstep with ⟨test, hreset, hk⟩ | ⟨hno, hk⟩
  · have hmode : t.mode = strapMode test := congrArg Control.mode hk
    refine ⟨congrArg Control.cfg hk, fun hno => absurd hno (not_noReset_of_resetsWith hreset), fun test' rest ha => ?_,
      fun test' torn rest ha => ?_⟩
    · rw [hmode, (resetsWith_reset_iff ha).1 hreset, strapMode]
    · rw [hmode, (resetsWith_powerCycle_iff ha).1 hreset, strapMode]
  · have hsame : t.cfg = s.cfg ∧ t.mode = s.mode := by
      rcases hk with hk | ⟨-, d, hk⟩ | ⟨-, w, c, rest, -, -, hk⟩ | ⟨-, v, rest, -, -, hk⟩ <;>
        exact ⟨congrArg Control.cfg hk, congrArg Control.mode hk⟩
    refine ⟨hsame.1, fun _ => hsame.2, fun test rest ha => ?_, fun test torn rest ha => ?_⟩
    · exact nomatch (noReset_of_cons ha).1 hno
    · exact nomatch (noReset_of_cons ha).1 hno

/-- Settles O50: a step drives the port, or leaves it alone, and then the latch moves only by a reset. -/
theorem dutyLatchFollowsThePort : Obligations.DutyLatchFollowsThePort := by
  intro s t hstep
  rcases step_control hstep with ⟨test, hreset, hk⟩ | ⟨-, hk⟩
  · exact .inl ⟨congrArg Control.port hk, fun hno => absurd hno (not_noReset_of_resetsWith hreset)⟩
  · rcases hk with hk | ⟨hdrives, d, hk⟩ | ⟨-, w, c, rest, -, -, hk⟩ | ⟨-, v, rest, -, -, hk⟩
    · exact .inl ⟨congrArg Control.port hk, fun _ => congrArg Control.duty hk⟩
    · have hduty : t.duty = d := congrArg Control.duty hk
      exact .inr ⟨hduty ▸ congrArg Control.port hk, hdrives⟩
    · exact .inl ⟨congrArg Control.port hk, fun _ => congrArg Control.duty hk⟩
    · exact .inl ⟨congrArg Control.port hk, fun _ => congrArg Control.duty hk⟩

/-- Settles O49: what HOST's two writes do is computed, and no other step but a reset reaches ERR or CAUSE. -/
theorem errorFlagIsSticky : Obligations.ErrorFlagIsSticky := by
  intro s t hstep
  obtain ⟨hvalid, -⟩ := step_cases hstep
  refine ⟨fun ⟨e, he, hresets⟩ => ?_, fun w c rest hb ha hc => ?_, fun v rest hb ha hv => ?_, fun hno => ?_⟩
  · rcases step_control hstep with ⟨test, -, hk⟩ | ⟨hno, -⟩
    · exact ⟨congrArg Control.err hk, congrArg Control.cause hk⟩
    · exact absurd hresets (by rw [hno e he]; decide)
  · have hw := step_of_window_write (o := 0) hvalid hb (by decide) (by decide) ha
    have hillegal := cmdWrite_of_illegal (s := (s.withAgenda rest).respond .written) hc
    injection hstep.symm.trans (hw.trans hillegal) with ht
    exact ht ▸ ⟨rfl, rfl⟩
  · have hw := step_of_window_write hvalid hb (by decide) (by decide) ha
    have hclear := writeReg_status_clear ((s.withAgenda rest).respond .written) hv
    injection hstep.symm.trans (hw.trans hclear) with ht
    exact ht ▸ ⟨rfl, rfl⟩
  · rcases step_control hstep with ⟨test, hreset, -⟩ | ⟨-, hk⟩
    · exact absurd hno (not_noReset_of_resetsWith hreset)
    · rcases hk with hk | ⟨-, d, hk⟩ | ⟨hb, w, c, rest, ha, hc, -⟩ | ⟨hb, v, rest, ha, hv, -⟩
      · exact .inl ⟨congrArg Control.err hk, congrArg Control.cause hk⟩
      · exact .inl ⟨congrArg Control.err hk, congrArg Control.cause hk⟩
      · exact .inr (.inl ⟨hb, w, c, rest, ha, hc⟩)
      · exact .inr (.inr ⟨hb, v, rest, ha, hv⟩)

/-! ### Runs that meet the hypotheses -/

/-- O19 at the first step after a reset, the boot step. -/
theorem witness_boot_step_keeps_invariant : ∃ t, step (State.reset.withAgenda [.seq]) = .next t ∧ t.phase = .idle ∧ t.Inv := by
  refine ⟨_, rfl, rfl, ?_⟩
  exact everyStepKeepsTheInvariant (State.reset.withAgenda [.seq]) _ (resetMeetsTheInvariant.withAgenda [.seq]) rfl

/-- O47 at a reset that samples the strap as 1 in RUN mode. -/
theorem witness_reset_samples_strap :
    ∃ t, step { State.reset with phase := .idle, agenda := [.reset true] } = .next t ∧ t.mode = .test := by
  refine ⟨_, rfl, ?_⟩
  obtain ⟨-, -, hreset, -⟩ :=
    modeChangesOnlyAtReset { State.reset with phase := .idle, agenda := [.reset true] } _ rfl
  exact hreset true [] rfl

/-- O49 at a CMD write in RUN mode, over an error already there. -/
theorem witness_illegal_write_over_error :
    ∃ t, step { State.reset with phase := .idle, err := true, cause := 2, agenda := [.write .b4 0 0x00006000] } = .next t ∧
      t.cause = 1 := by
  refine ⟨_, rfl, ?_⟩
  obtain ⟨-, hillegal, -, -⟩ :=
    errorFlagIsSticky { State.reset with phase := .idle, err := true, cause := 2, agenda := [.write .b4 0 0x00006000] } _ rfl
  exact (hillegal 0x00006000 .cmdInRun [] (by decide) rfl (by decide)).2

/-- O50 at an update cycle: one write, of the value that the latch then holds. -/
theorem witness_update_cycle_drives_port :
    ∃ t, step { State.reset with phase := .updating, agenda := [.seq] } = .next t ∧ t.port = [t.duty] := by
  refine ⟨_, rfl, ?_⟩
  rcases dutyLatchFollowsThePort { State.reset with phase := .updating, agenda := [.seq] } _ rfl with ⟨hport, -⟩ | ⟨hport, -⟩
  · exact absurd hport (List.cons_ne_self _ _)
  · exact hport

end Sys2Proof.Machine
end

section
/-! SUPPORT. The seed word in the store: its bytes read back, whole or torn (`20_memory.md` R52, R54), and the statements O25 and O30. -/

namespace Sys2Proof.Machine

/-! ### Words and their bytes -/

/-- The bytes of a word, as numbers (R52). -/
theorem byteOf_toNat (v : Word) (i : Nat) : (byteOf v i).toNat = v.toNat / 2 ^ (8 * i) % 256 := by
  rw [byteOf, BitVec.extractLsb'_toNat, Nat.shiftRight_eq_div_pow]

/-- The bits of a byte of a word (R58). -/
theorem byteOf_getLsbD (v : Word) (i : Nat) {j : Nat} (hj : j < 8) : (byteOf v i).getLsbD j = v.getLsbD (8 * i + j) := by
  rw [byteOf, BitVec.getLsbD_extractLsb', decide_eq_true hj, Bool.true_and]

/-- A word is put together from its own bytes, lowest first. -/
theorem wordOfLanes_byteOf (v : Word) : wordOfLanes (byteOf v 0) (byteOf v 1) (byteOf v 2) (byteOf v 3) = v := by
  simp only [wordOfLanes, byteOf]
  rw [BitVec.extractLsb'_append_extractLsb'_eq_extractLsb' (by rfl), BitVec.extractLsb'_append_extractLsb'_eq_extractLsb' (by rfl),
    BitVec.extractLsb'_append_extractLsb'_eq_extractLsb' (by rfl)]
  exact BitVec.extractLsb'_eq_self

/-- An appended byte adds its value below the rest. -/
theorem toNat_append_byte {n : Nat} (x : BitVec n) (b : Byte) : (x ++ b).toNat = 2 ^ 8 * x.toNat + b.toNat := by
  rw [BitVec.toNat_append, ← Nat.shiftLeft_add_eq_or_of_lt b.isLt, Nat.shiftLeft_eq, Nat.mul_comm]

theorem wordOfLanes_toNat (b0 b1 b2 b3 : Byte) :
    (wordOfLanes b0 b1 b2 b3).toNat = b0.toNat + 2 ^ 8 * b1.toNat + 2 ^ 16 * b2.toNat + 2 ^ 24 * b3.toNat := by
  simp only [wordOfLanes, toNat_append_byte]
  omega

/-- `SeedRead()` takes its byte lanes from the store (R52). -/
theorem State.seedRead_eq (s : State) :
    s.seedRead = wordOfLanes (s.storeByte (s.cfg.seedAddr + 0)) (s.storeByte (s.cfg.seedAddr + 1))
      (s.storeByte (s.cfg.seedAddr + 2)) (s.storeByte (s.cfg.seedAddr + 3)) := rfl

/-! ### A canonical store, of whatever size -/

theorem cellsWf_mono_size {size size' lo : Nat} {m : List Host.Cell} (hm : cellsWf size lo m = true) (h : size ≤ size') :
    cellsWf size' lo m = true := by
  induction m generalizing lo with
  | nil => rfl
  | cons c rest ih =>
    obtain ⟨k, u⟩ := c
    simp only [cellsWf, Bool.and_eq_true, decide_eq_true_eq] at hm ⊢
    obtain ⟨⟨⟨hlo, hsize⟩, hu⟩, hrest⟩ := hm
    exact ⟨⟨⟨hlo, by omega⟩, hu⟩, ih hrest⟩

/-- The store is in canonical form for some size. Unlike `Memory.wf`, a write at any address keeps it, so that the laws of the seed word
do not need the seed to lie inside the store (R53). -/
def State.Canonical (s : State) : Prop := ∃ size, cellsWf size 0 s.store = true

theorem State.canonical_of_wf {s : State} (h : Memory.wf s = true) : s.Canonical := ⟨_, h⟩

theorem State.Canonical.setStoreByte {s : State} (h : s.Canonical) (a : Nat) (v : Byte) : (s.setStoreByte a v).Canonical := by
  obtain ⟨size, hm⟩ := h
  exact ⟨max size (a + 1), cellsWf_writeCells (cellsWf_mono_size hm (by omega)) (Nat.zero_le a) (by omega) v⟩

theorem State.Canonical.storeByte_setStoreByte_same {s : State} (h : s.Canonical) (a : Nat) (v : Byte) :
    (s.setStoreByte a v).storeByte a = v := by
  obtain ⟨size, hm⟩ := h
  exact readCells_writeCells_same hm v

/-! ### Writing the seed word, byte by byte -/

/-- The first `n` bytes of a word, each written at its address above `base` if the mask selects it. -/
def State.putBytes (base : Nat) (which : BitVec 4) (v : Word) : Nat → State → State
  | 0, s => s
  | n + 1, s =>
    if which.getLsbD n then (putBytes base which v n s).setStoreByte (base + n) (byteOf v n) else putBytes base which v n s

theorem State.seedWriteSome_eq_putBytes (s : State) (which : BitVec 4) (v : Word) :
    s.seedWriteSome which v = putBytes s.cfg.seedAddr which v 4 s := rfl

theorem State.putBytes_withAgenda (s : State) (base : Nat) (which : BitVec 4) (v : Word) (es : List Event) (n : Nat) :
    putBytes base which v n (s.withAgenda es) = (putBytes base which v n s).withAgenda es := by
  induction n with
  | zero => rfl
  | succ n ih =>
    unfold putBytes
    split_ifs
    · rw [ih]
      rfl
    · exact ih

section
variable {s : State} (h : s.Canonical) (base : Nat) (which : BitVec 4) (v : Word)
include h

theorem State.Canonical.putBytes (n : Nat) : (putBytes base which v n s).Canonical := by
  induction n with
  | zero => exact h
  | succ n ih =>
    unfold State.putBytes
    split_ifs
    · exact ih.setStoreByte _ _
    · exact ih

theorem State.Canonical.storeByte_putBytes (n i : Nat) :
    (State.putBytes base which v n s).storeByte (base + i) =
      if i < n ∧ which.getLsbD i then byteOf v i else s.storeByte (base + i) := by
  induction n with
  | zero => rw [if_neg (by omega), State.putBytes]
  | succ n ih =>
    by_cases hin : i = n
    · subst hin
      rw [if_neg (by omega)] at ih
      unfold State.putBytes
      split_ifs with hbit hsel hsel
      · exact (h.putBytes base which v i).storeByte_setStoreByte_same _ _
      · exact absurd ⟨by omega, hbit⟩ hsel
      · exact absurd hsel.2 hbit
      · exact ih
    · have hlt : i < n + 1 ↔ i < n := by omega
      simp only [hlt, ← ih, State.putBytes]
      split_ifs
      · exact State.storeByte_setStoreByte_other _ (by omega) _
      · rfl

/-- A write of part of the seed word leaves each of its bytes new or old, as the mask says (R54). -/
theorem State.Canonical.storeByte_seedWriteSome {i : Nat} (hi : i < 4) :
    (s.seedWriteSome which v).storeByte (s.cfg.seedAddr + i) =
      if which.getLsbD i then byteOf v i else s.storeByte (s.cfg.seedAddr + i) := by
  rw [State.seedWriteSome_eq_putBytes, h.storeByte_putBytes]
  simp only [hi, true_and]

end

/-- A write of part of the seed word is the same whatever is still to come. -/
theorem State.seedWriteSome_withAgenda (s : State) (which : BitVec 4) (v : Word) (es : List Event) :
    (s.withAgenda es).seedWriteSome which v = (s.seedWriteSome which v).withAgenda es :=
  putBytes_withAgenda s s.cfg.seedAddr which v es 4

/-- `SeedWrite(v)` leaves byte `i` of `v` at `SEED_ADDR + i` (R52). -/
theorem State.Canonical.storeByte_seedWrite {s : State} (h : s.Canonical) (v : Word) {i : Nat} (hi : i < 4) :
    (s.seedWrite v).storeByte (s.cfg.seedAddr + i) = byteOf v i := by
  have hall : ∀ i < 4, (0xF : BitVec 4).getLsbD i = true := by decide
  rw [State.seedWrite, h.storeByte_seedWriteSome _ _ hi, if_pos (hall i hi)]

@[simp] theorem State.seedWrite_cfg (s : State) (v : Word) : (s.seedWrite v).cfg = s.cfg := s.seedWriteSome_cfg 0xF v

/-- The boot step writes the whole adjusted seed back (R113). -/
theorem State.Canonical.storeByte_bootStep {s : State} (h : s.Canonical) {i : Nat} (hi : i < 4) :
    (bootStep s).storeByte (s.cfg.seedAddr + i) = byteOf s.bootSeed i := h.storeByte_seedWrite s.bootSeed hi

/-- Power lost in phase BOOT leaves the store of a boot write cut short (R54). -/
theorem powerCycle_store_of_boot {s : State} (hb : s.phase = .boot) (test : Bool) (torn : BitVec 4) :
    (powerCycle test torn s).store = (s.seedWriteSome torn s.bootSeed).store := by
  rw [powerCycle, if_pos hb, resetBlock_store]

theorem powerCycle_agenda (test : Bool) (torn : BitVec 4) (s : State) : (powerCycle test torn s).agenda = s.agenda := by
  unfold powerCycle
  split_ifs
  · exact s.seedWriteSome_agenda torn _
  · rfl

/-- In phase BOOT SEQ's turn is the boot step (`44_scheduler.md` R171). -/
theorem seqTurn_of_boot {s : State} (hb : s.phase = .boot) : seqTurn s = bootStep s := by
  simp only [seqTurn, hb]

/-- The store is read by its list of cells alone. -/
theorem State.storeByte_of_store_eq {s t : State} (h : t.store = s.store) (a : Nat) : t.storeByte a = s.storeByte a :=
  congrArg (readCells · a) h

/-! ### The step by its event -/

theorem step_of_nil {s : State} (hc : configValid s.cfg = true) (ha : s.agenda = []) : step s = .next (seqTurn s) := by
  simp only [step_of_valid hc, agendaStep, ha]

theorem step_of_cons {s : State} {e : Event} {rest : List Event} (hc : configValid s.cfg = true) (ha : s.agenda = e :: rest) :
    step s = eventStep e rest s := by
  simp only [step_of_valid hc, agendaStep, ha]

/-! ### The statements -/

/-- Settles O25: reading puts together the four bytes, and writing leaves the four bytes of the value there. -/
theorem seedWordReadsBack : Obligations.SeedWordReadsBack := by
  intro s v hwf
  have hbyte {i : Nat} (hi : i < 4) := (State.canonical_of_wf hwf).storeByte_seedWrite v hi
  refine ⟨?_, ?_, fun i hi => ?_, fun a ha => s.storeByte_seedWriteSome_other 0xF v ha⟩
  · rw [State.seedRead_eq, wordOfLanes_toNat]
  · rw [State.seedRead_eq, State.seedWrite_cfg, hbyte (by decide), hbyte (by decide), hbyte (by decide), hbyte (by decide),
      wordOfLanes_byteOf]
  · rw [hbyte hi, byteOf_toNat]

/-- Settles O30: the torn write and the boot step that would have completed it write the same adjusted seed, the one by the mask and the
other whole. -/
theorem tornBootWriteMixesBytes : Obligations.TornBootWriteMixesBytes := by
  intro s rest test torn hc hwf hb ha
  have hcanon (es : List Event) : (s.withAgenda es).Canonical := State.canonical_of_wf (s := s) hwf
  have hboot : step (s.withAgenda []) = .next (bootStep (s.withAgenda [])) :=
    (step_of_nil (s := s.withAgenda []) hc rfl).trans (congrArg _ (seqTurn_of_boot hb))
  have htorn := State.storeByte_of_store_eq (powerCycle_store_of_boot (s := s.withAgenda rest) hb test torn)
  refine ⟨powerCycle test torn (s.withAgenda rest), bootStep (s.withAgenda []), step_of_cons hc ha, hboot, rfl,
    powerCycle_agenda test torn _, fun i hi => ?_, fun a hout => ?_⟩
  · have hnew : (bootStep (s.withAgenda [])).storeByte (s.cfg.seedAddr + i) = byteOf s.bootSeed i :=
      (hcanon []).storeByte_bootStep hi
    rw [htorn, hnew]
    exact (hcanon rest).storeByte_seedWriteSome torn _ hi
  · rw [htorn]
    exact (s.withAgenda rest).storeByte_seedWriteSome_other torn _ hout

/-! ### Runs that meet the hypotheses -/

/-- O25 over a store that lists two of the four bytes. -/
theorem witness_seed_written_then_read :
    ((State.reset.setStoreByte 3 7).setStoreByte 0 2).seedRead = 0x07000002 ∧
      (((State.reset.setStoreByte 3 7).setStoreByte 0 2).seedWrite 0xA3AC183C).seedRead = 0xA3AC183C := by
  obtain ⟨-, hback, -⟩ := seedWordReadsBack ((State.reset.setStoreByte 3 7).setStoreByte 0 2) 0xA3AC183C (by decide)
  exact ⟨by decide, hback⟩

/-- O30 at the first boot over a stored 0x0100FFFF: of the new seed 0x01010000, bytes 0 and 3 are written and the carry into byte 2 is
lost. -/
theorem witness_torn_seed :
    ∃ t, step { State.reset with store := [(0, 0xFF), (1, 0xFF), (3, 1)], agenda := [.powerCycle true 0b1001] } = .next t ∧
      t.storeByte 0 = 0 ∧ t.storeByte 1 = 0xFF ∧ t.storeByte 2 = 0 := by
  obtain ⟨t, u, ht, hu, -, -, hbytes, -⟩ :=
    tornBootWriteMixesBytes { State.reset with store := [(0, 0xFF), (1, 0xFF), (3, 1)], agenda := [.powerCycle true 0b1001] }
      [] true 0b1001 (by decide) (by decide) rfl rfl
  injection hu with hu
  subst hu
  exact ⟨t, ht, (hbytes 0 (by decide)).trans (by decide), (hbytes 1 (by decide)).trans (by decide),
    (hbytes 2 (by decide)).trans (by decide)⟩

end Sys2Proof.Machine
end

section
/-! SUPPORT. Who writes the store (`20_memory.md` R50, R51): once, what a step can do to it, and the statement O48. -/

namespace Sys2Proof.Machine

/-! ### The agents after the boot step -/

theorem ovfApply_store (s : State) : (ovfApply s).store = s.store := by
  rcases ovfApply_cases s with ⟨-, h⟩ | ⟨-, h⟩ <;> rw [h]

theorem overflowStep_store (s : State) : (overflowStep s).store = s.store := by
  rcases overflowStep_cases s with ⟨-, -, h⟩ | ⟨-, h⟩ <;> rw [h]
  exact ovfApply_store s

theorem observeAndClear_store (s : State) : (observeAndClear s).store = s.store := rfl

theorem updateCycle_store (s : State) : (updateCycle s).store = s.store := rfl

/-- SEQ writes the store in the boot step alone. -/
theorem seqTurn_store {s : State} (hb : s.phase ≠ .boot) : (seqTurn s).store = s.store := by
  rcases seqTurn_cases s with ⟨hp, -⟩ | ⟨-, -, -, h⟩ | ⟨-, -, h⟩ | ⟨-, -, h⟩
  · exact absurd hp hb
  · rw [h, observeAndClear_store]
  · rw [h, updateCycle_store]
  · rw [h]

theorem powerCycle_store {s : State} (hb : s.phase ≠ .boot) (test : Bool) (torn : BitVec 4) :
    (powerCycle test torn s).store = s.store := by
  rw [powerCycle, if_neg hb, resetBlock_store]

/-! ### Commands and HOST's accesses -/

theorem inTest_store {s e t : State} (he : e.store = s.store) (h : s.inTest e = .next t) : t.store = s.store := by
  rcases inTest_cases h with ⟨-, rfl⟩ | ⟨-, rfl⟩
  · exact he
  · rfl

theorem exec_store {i : Instr} {s t : State} (h : exec i s = .next t) : t.store = s.store := by
  cases i with
  | nop | step | normal | filter _ | map | update | take =>
    refine inTest_store ?_ h
    rfl
  | draw n =>
    refine inTest_store ?_ h
    split_ifs <;> rfl
  | ovf => exact inTest_store (ovfApply_store s) h

theorem cmdWrite_store {w : Word} {s t : State} (h : cmdWrite w s = .next t) : t.store = s.store := by
  rcases cmdWrite_cases h with ⟨c, -, he⟩ | ⟨i, -, he⟩
  · injection he with he
    exact he ▸ rfl
  · exact exec_store he.symm

theorem writeReg_store {o : Nat} {v : Word} {s t : State} (h : writeReg o v s = .next t) : t.store = s.store := by
  rcases writeReg_cases h with ⟨-, he⟩ | ⟨-, he⟩ | ⟨-, -, he⟩ | ⟨-, -, he⟩ | ⟨-, -, -, he⟩
  · exact cmdWrite_store he.symm
  all_goals
    injection he with he
    exact he ▸ rfl

theorem hostRead_store {w : Width} {a : Nat} {s t : State} (h : hostRead w a s = .next t) : t.store = s.store := by
  rcases hostRead_cases h with ⟨-, -, he⟩ | ⟨-, -, he⟩ | ⟨-, he⟩ <;> injection he with he <;> exact he ▸ rfl

theorem hostWrite_store {w : Width} {a : Nat} {v : Word} {s t : State} (h : hostWrite w a v s = .next t) : t.store = s.store := by
  rcases hostWrite_cases h with ⟨-, -, he⟩ | ⟨-, -, he⟩ | ⟨-, he⟩
  · exact writeReg_store (s := s.respond .written) he.symm
  all_goals
    injection he with he
    exact he ▸ rfl

theorem hostStoreRead_store {a : Nat} {s t : State} (h : hostStoreRead a s = .next t) : t.store = s.store := by
  rcases hostStoreRead_cases h with ⟨-, he⟩ | ⟨-, he⟩
  · injection he with he
    exact he ▸ rfl
  · nomatch he

/-! ### The step -/

/-- After the boot step, only HOST's own store write reaches the store. -/
theorem step_store_after_boot {s t : State} (h : step s = .next t) (hb : s.phase ≠ .boot) :
    t.store = s.store ∨ ∃ a v rest, s.agenda = .storeWrite a v :: rest := by
  obtain ⟨-, ⟨-, rfl⟩ | ⟨e, rest, ha, hevent⟩⟩ := step_cases h
  · exact .inl (seqTurn_store hb)
  · rcases hevent with ⟨-, rfl⟩ | ⟨-, rfl⟩ | ⟨test, -, rfl⟩ | ⟨test, torn, -, rfl⟩ | ⟨hp, -, -⟩ | ⟨-, haccess⟩
    · exact .inl (seqTurn_store (s := s.withAgenda rest) hb)
    · exact .inl (overflowStep_store (s.withAgenda rest))
    · exact .inl rfl
    · exact .inl (powerCycle_store (s := s.withAgenda rest) hb test torn)
    · exact absurd hp hb
    · rcases haccess with ⟨w, a, -, ht⟩ | ⟨w, a, v, -, ht⟩ | ⟨a, -, ht⟩ | ⟨a, v, rfl, -⟩
      · exact .inl (hostRead_store (s := s.withAgenda rest) ht)
      · exact .inl (hostWrite_store (s := s.withAgenda rest) ht)
      · exact .inl (hostStoreRead_store (s := s.withAgenda rest) ht)
      · exact .inr ⟨a, v, rest, ha⟩

/-- In phase BOOT, a step writes some bytes of the seed word or leaves the store alone. -/
theorem step_store_in_boot {s t : State} (h : step s = .next t) (hb : s.phase = .boot) :
    t.store = s.store ∨ ∃ which v, t.store = (s.seedWriteSome which v).store := by
  have hseed (which : BitVec 4) (es : List Event) :
      ((s.withAgenda es).seedWriteSome which s.bootSeed).store = (s.seedWriteSome which s.bootSeed).store := by
    rw [State.seedWriteSome_withAgenda, State.withAgenda_store]
  have hturn (u : State) (hu : u.phase = .boot) : (seqTurn u).store = (u.seedWriteSome 0xF u.bootSeed).store := by
    rw [seqTurn_of_boot hu, bootStep_store, State.seedWrite]
  obtain ⟨-, ⟨-, rfl⟩ | ⟨e, rest, -, hevent⟩⟩ := step_cases h
  · exact .inr ⟨0xF, s.bootSeed, hturn s hb⟩
  · rcases hevent with ⟨-, rfl⟩ | ⟨-, rfl⟩ | ⟨test, -, rfl⟩ | ⟨test, torn, -, rfl⟩ | ⟨-, -, rfl⟩ | ⟨hp, -⟩
    · exact .inr ⟨0xF, s.bootSeed, (hturn (s.withAgenda rest) hb).trans (hseed 0xF rest)⟩
    · exact .inl (overflowStep_store (s.withAgenda rest))
    · exact .inl rfl
    · exact .inr ⟨torn, s.bootSeed, (powerCycle_store_of_boot (s := s.withAgenda rest) hb test torn).trans (hseed torn rest)⟩
    · exact .inr ⟨0xF, s.bootSeed, rfl⟩
    · exact absurd hb hp

/-- A reset leaves the store alone, in any phase (`70_reset_and_hazards.md` R250). -/
theorem step_store_of_reset {s t : State} {test : Bool} {rest : List Event} (h : step s = .next t)
    (ha : s.agenda = .reset test :: rest) : t.store = s.store := by
  obtain ⟨hc, -⟩ := step_cases h
  injection h.symm.trans (step_of_cons hc ha) with ht
  exact ht ▸ rfl

/-! ### The statement -/

/-- Settles O48: after the boot step no agent but HOST reaches the store, and in phase BOOT what is written is part of the seed word. -/
theorem storeChangesOnlyAtBoot : Obligations.StoreChangesOnlyAtBoot := by
  intro s t hstep
  refine ⟨fun hb hhost => ?_, fun hb a hout => ?_, fun test rest ha => ?_⟩
  · rcases step_store_after_boot hstep hb with hst | ⟨a, v, rest, ha⟩
    · exact State.storeByte_of_store_eq hst
    · exact absurd ha (hhost a v rest)
  · rcases step_store_in_boot hstep hb with hst | ⟨which, v, hst⟩
    · exact State.storeByte_of_store_eq hst a
    · exact (State.storeByte_of_store_eq hst a).trans (s.storeByte_seedWriteSome_other which v hout)
  · exact State.storeByte_of_store_eq (step_store_of_reset hstep ha)

/-! ### Runs that meet the hypotheses -/

/-- O48 at the boot step of a store with a fifth byte, just past the seed word. -/
theorem witness_boot_keeps_fifth_byte :
    ∃ t, step { State.reset with cfg := { Config.default with storeSize := 5 }, store := [(0, 0xFF), (4, 9)] } = .next t ∧
      t.storeByte 1 = 1 ∧ t.storeByte 4 = 9 := by
  refine ⟨_, rfl, by decide, ?_⟩
  obtain ⟨-, hboot, -⟩ := storeChangesOnlyAtBoot
    { State.reset with cfg := { Config.default with storeSize := 5 }, store := [(0, 0xFF), (4, 9)] } _ rfl
  exact hboot rfl 4 (.inr (by decide))

/-- O48 at an update cycle, with a seed in the store. -/
theorem witness_update_cycle_keeps_seed :
    ∃ t, step { State.reset with phase := .updating, store := [(0, 2)] } = .next t ∧ t.storeByte 0 = 2 := by
  refine ⟨_, rfl, ?_⟩
  obtain ⟨hafter, -, -⟩ := storeChangesOnlyAtBoot { State.reset with phase := .updating, store := [(0, 2)] } _ rfl
  exact hafter (by decide) (fun _ _ _ => nofun) 0

end Sys2Proof.Machine
end

section
/-! SUPPORT. HOST's accesses to the register window that answer without a command (`20_memory.md` R55, R56, R58), and the statements O56,
O57 and O58. -/

namespace Sys2Proof.Machine

/-! ### An access after the boot step -/

/-- Nothing makes an access wait after the boot step (`70_reset_and_hazards.md` R251). -/
theorem State.stalled_after_boot {s : State} (hb : s.phase ≠ .boot) (rest : List Event)
    (access : State → Host.Outcome State Fault Refusal) : s.stalled rest access = access (s.withAgenda rest) := if_neg hb

theorem step_of_read {s : State} {w : Width} {a : Nat} {rest : List Event} (hc : configValid s.cfg = true) (hb : s.phase ≠ .boot)
    (ha : s.agenda = .read w a :: rest) : step s = hostRead w a (s.withAgenda rest) :=
  (step_of_cons hc ha).trans (State.stalled_after_boot hb rest _)

theorem step_of_write {s : State} {w : Width} {a : Nat} {v : Word} {rest : List Event} (hc : configValid s.cfg = true)
    (hb : s.phase ≠ .boot) (ha : s.agenda = .write w a v :: rest) : step s = hostWrite w a v (s.withAgenda rest) :=
  (step_of_cons hc ha).trans (State.stalled_after_boot hb rest _)

/-- Where a read and a write of the same place have one outcome, it is the step's. -/
theorem step_of_access {s : State} {w : Width} {a : Nat} {v : Word} {rest : List Event} {r : Host.Outcome State Fault Refusal}
    (hc : configValid s.cfg = true) (hb : s.phase ≠ .boot) (ha : s.agenda = .read w a :: rest ∨ s.agenda = .write w a v :: rest)
    (hr : hostRead w a (s.withAgenda rest) = r ∧ hostWrite w a v (s.withAgenda rest) = r) : step s = r := by
  obtain ⟨hread, hwrite⟩ := hr
  rcases ha with ha | ha
  · exact (step_of_read hc hb ha).trans hread
  · exact (step_of_write hc hb ha).trans hwrite

/-! ### The three kinds of access (R55, R56) -/

theorem touchesWindow_iff {c : Config} {w : Width} {a : Nat} :
    touchesWindow c w a = true ↔ c.winBase < a + widthBytes w ∧ a < c.winBase + 0x40 := decide_eq_true_iff

theorem hostRead_legal {s : State} {w : Width} {a : Nat} (hl : legalAccess s.cfg w a = true) :
    hostRead w a s = .next (s.respond (.data (readReg (a - s.cfg.winBase) s))) := by
  rw [hostRead, if_pos (touchesWindow_of_legalAccess hl), if_pos hl]

theorem hostAccess_illegal {s : State} {w : Width} {a : Nat} (v : Word) (ht : touchesWindow s.cfg w a = true)
    (hl : ¬legalAccess s.cfg w a = true) :
    hostRead w a s = .next (s.raiseBusError a) ∧ hostWrite w a v s = .next (s.raiseBusError a) := by
  constructor
  · rw [hostRead, if_pos ht, if_neg hl]
  · rw [hostWrite, if_pos ht, if_neg hl]

theorem hostAccess_outside {s : State} {w : Width} {a : Nat} (v : Word) (ht : ¬touchesWindow s.cfg w a = true) :
    hostRead w a s = .next (s.respond (.notWindow a)) ∧ hostWrite w a v s = .next (s.respond (.notWindow a)) := by
  constructor
  · rw [hostRead, if_neg ht]
  · rw [hostWrite, if_neg ht]

/-- No register shows what is still to come. -/
theorem readReg_withAgenda (o : Nat) (es : List Event) (s : State) : readReg o (s.withAgenda es) = readReg o s := rfl

/-- A read of the register at offset `o` answers its value (R201). -/
theorem step_of_window_read {s : State} {rest : List Event} {o : Nat} (hc : configValid s.cfg = true) (hb : s.phase ≠ .boot)
    (halign : o % 4 = 0) (hin : o ≤ 0x3C) (ha : s.agenda = .read .b4 (s.cfg.winBase + o) :: rest) :
    step s = .next { s with agenda := rest, resp := .data (readReg o s) } := by
  obtain ⟨-, -, -, -, hbase⟩ := configValid_bounds hc
  have hlegal : legalAccess s.cfg .b4 (s.cfg.winBase + o) = true := legalAccess_iff.2 ⟨rfl, by omega, by omega, by omega⟩
  have hoff : s.cfg.winBase + o - s.cfg.winBase = o := Nat.add_sub_cancel_left _ _
  calc step s = hostRead .b4 (s.cfg.winBase + o) (s.withAgenda rest) := step_of_read hc hb ha
    _ = .next ((s.withAgenda rest).respond (.data (readReg o (s.withAgenda rest)))) := by
      rw [hostRead_legal (s := s.withAgenda rest) hlegal, State.withAgenda_cfg, hoff]
    _ = _ := by
      rw [readReg_withAgenda]
      rfl

/-! ### The statements -/

/-- Settles O58: the register that holds byte `k` starts at offset `k - k mod 4`, and the byte's lane in it is `k mod 4`. -/
theorem windowIsLittleEndian : Obligations.WindowIsLittleEndian := by
  intro s rest k j hc hb hk hj ha
  have hoff : k - k % 4 = 4 * (k / 4) := by omega
  rw [hoff] at ha
  exact ⟨readReg (4 * (k / 4)) s, step_of_window_read hc hb (by omega) (by omega) ha, byteOf_getLsbD _ _ hj⟩

/-- Settles O56: a read and a write that touch the window unlawfully have the bus error as their one outcome. -/
theorem illegalAccessGetsBusError : Obligations.IllegalAccessGetsBusError := by
  intro s rest w a v hc hb hlo hhi hillegal ha
  exact step_of_access hc hb ha
    (hostAccess_illegal (s := s.withAgenda rest) v (touchesWindow_iff.2 ⟨hlo, hhi⟩) (mt legalAccess_iff.1 hillegal))

/-- Settles O57: an access below or above the window does not touch it. -/
theorem accessOutsideTheWindowIsNotTheBlocks : Obligations.AccessOutsideTheWindowIsNotTheBlocks := by
  intro s rest w a v hc hb hout ha
  refine step_of_access hc hb ha (hostAccess_outside (s := s.withAgenda rest) v fun ht => ?_)
  have htouch : s.cfg.winBase < a + widthBytes w ∧ a < s.cfg.winBase + 0x40 := touchesWindow_iff.1 ht
  omega

/-! ### Runs that meet the hypotheses -/

/-- O58 at the top bit of ARG, bit 7 of byte 7 of the window. -/
theorem witness_arg_top_byte :
    ∃ v, step { State.reset with phase := .idle, arg := 0x80000000, agenda := [.read .b4 4] } =
        .next { State.reset with phase := .idle, arg := 0x80000000, agenda := [], resp := .data v } ∧
      v.getLsbD 31 = true := by
  obtain ⟨v, hstep, hbit⟩ :=
    windowIsLittleEndian { State.reset with phase := .idle, arg := 0x80000000, agenda := [.read .b4 4] } [] 7 7
      (by decide) (by decide) (by decide) (by decide) rfl
  exact ⟨v, hstep, hbit.symm.trans (by decide)⟩

/-- O56 at a 2-byte write to CMD: aligned and inside, but of the wrong width. -/
theorem witness_narrow_write_runs_no_command :
    step { State.reset with phase := .idle, mode := .test, agenda := [.write .b2 0 0x00001000] } =
      .next { State.reset with phase := .idle, mode := .test, agenda := [], resp := .busError 0 } :=
  illegalAccessGetsBusError _ [] .b2 0 0x00001000 (by decide) (by decide) (by decide) (by decide) (by decide) (.inr rfl)

/-- O57 at a write that ends just below a window based at 0x40. -/
theorem witness_write_below_window :
    step { State.reset with cfg := { Config.default with winBase := 0x40 }, phase := .idle, agenda := [.write .b8 0x38 1] } =
      .next { State.reset with cfg := { Config.default with winBase := 0x40 }, phase := .idle, agenda := [],
                               resp := .notWindow 0x38 } :=
  accessOutsideTheWindowIsNotTheBlocks _ [] .b8 0x38 1 (by decide) (by decide) (.inl (by decide)) (.inr rfl)

end Sys2Proof.Machine
end

section
/-! SUPPORT. What the decoder answers, check by check (`30_encoding.md` R84 to R86), and the statements O13 to O16. -/

namespace Sys2Proof

/-! ### The fields as numbers (R80) -/

theorem rsvField_toNat (w : Word) : (rsvField w).toNat = w.toNat / 65536 := by
  rw [rsvField, BitVec.extractLsb'_toNat, Nat.shiftRight_eq_div_pow]
  exact Nat.mod_eq_of_lt (by omega)

theorem opField_toNat (w : Word) : (opField w).toNat = w.toNat / 4096 % 16 := by
  rw [opField, BitVec.extractLsb'_toNat, Nat.shiftRight_eq_div_pow]

theorem nField_toNat (w : Word) : (nField w).toNat = w.toNat / 256 % 16 := by
  rw [nField, BitVec.extractLsb'_toNat, Nat.shiftRight_eq_div_pow]

theorem immField_toNat (w : Word) : (immField w).toNat = w.toNat % 256 := by
  rw [immField, BitVec.extractLsb'_toNat, Nat.shiftRight_zero]

/-! ### R86 read forwards: each check decides once the checks before it have passed -/

section
variable {w : Word}

theorem decode_run (w : Word) : decode .run w = .illegal .cmdInRun := if_pos rfl

theorem decode_test_rsv (hrsv : rsvField w ≠ 0) : decode .test w = .illegal .rsvNonzero := by
  rw [decode, if_neg nofun, if_pos hrsv]

theorem decode_test_reserved (hrsv : rsvField w = 0) (hop : 9 ≤ (opField w).toNat) : decode .test w = .illegal .opReserved := by
  rw [decode, if_neg nofun, if_neg (not_not.2 hrsv), if_pos hop]

theorem decode_test_range (hrsv : rsvField w = 0) (hop : (opField w).toNat < 9) (hdraw : opField w = 0x2 ∧ 8 < (nField w).toNat) :
    decode .test w = .illegal .drawRange := by
  rw [decode, if_neg nofun, if_neg (not_not.2 hrsv), if_neg (Nat.not_le.2 hop), if_pos hdraw]

theorem decode_test_field (hrsv : rsvField w = 0) (hop : (opField w).toNat < 9)
    (hdraw : ¬(opField w = 0x2 ∧ 8 < (nField w).toNat))
    (hfield : (opField w ≠ 0x2 ∧ nField w ≠ 0) ∨ (opField w ≠ 0x4 ∧ immField w ≠ 0)) :
    decode .test w = .illegal .fieldNonzero := by
  rw [decode, if_neg nofun, if_neg (not_not.2 hrsv), if_neg (Nat.not_le.2 hop), if_neg hdraw]
  by_cases hn : opField w ≠ 0x2 ∧ nField w ≠ 0
  · exact if_pos hn
  · rw [if_neg hn, if_pos (hfield.resolve_left hn)]

/-- Past every check the opcode map answers. -/
theorem decode_test_legal (hrsv : rsvField w = 0) (hop : (opField w).toNat < 9)
    (hdraw : opField w = 0x2 → (nField w).toNat ≤ 8) (hn : opField w ≠ 0x2 → nField w = 0)
    (himm : opField w ≠ 0x4 → immField w = 0) : decode .test w = decodeOp w := by
  rw [decode, if_neg nofun, if_neg (not_not.2 hrsv), if_neg (Nat.not_le.2 hop), if_neg fun h => Nat.not_lt.2 (hdraw h.1) h.2,
    if_neg fun h => h.2 (hn h.1), if_neg fun h => h.2 (himm h.1)]

end

/-! ### The word of a command passes every check -/

theorem opcode_lt (i : Instr) : i.opcode.toNat < 9 := by
  cases i <;> exact of_decide_eq_true rfl

/-- Only DRAW has OP 2, and its count is in range when it is well formed (R82). -/
theorem countField_le {i : Instr} (hwf : i.wf = true) (hop : i.opcode = 0x2) : i.countField.toNat ≤ 8 := by
  cases i with
  | draw n => exact of_decide_eq_true hwf
  | nop | step | normal | filter _ | map | update | ovf | take => exact absurd hop (of_decide_eq_true rfl)

theorem countField_eq_zero {i : Instr} (hop : i.opcode ≠ 0x2) : i.countField = 0 := by
  cases i with
  | draw n => exact absurd rfl hop
  | nop | step | normal | filter _ | map | update | ovf | take => rfl

theorem immediateField_eq_zero {i : Instr} (hop : i.opcode ≠ 0x4) : i.immediateField = 0 := by
  cases i with
  | filter x => exact absurd rfl hop
  | nop | step | draw _ | normal | map | update | ovf | take => rfl

/-- The opcode map takes a command's word back to it (R84). -/
theorem decodeOp_encode (i : Instr) : decodeOp (encode i) = .op i := by
  obtain ⟨-, hop, hn, himm⟩ := Laws.EncodeFields.of_pack i.opcode i.countField i.immediateField
  rw [decodeOp, encode, hop, hn, himm]
  cases i <;> rfl

theorem decode_encode {i : Instr} (hwf : i.wf = true) : decode .test (encode i) = .op i := by
  obtain ⟨hrsv, hop, hn, himm⟩ := Laws.EncodeFields.of_pack i.opcode i.countField i.immediateField
  calc decode .test (encode i) = decodeOp (encode i) := by
        refine decode_test_legal hrsv ?_ ?_ ?_ ?_ <;> rw [encode, hop]
        · exact opcode_lt i
        · rw [hn]
          exact countField_le hwf
        · rw [hn]
          exact countField_eq_zero
        · rw [himm]
          exact immediateField_eq_zero
    _ = .op i := decodeOp_encode i

/-- A word written out decodes to the command whose word it is. -/
theorem decode_of_encode_eq {i : Instr} {w : Word} (hwf : i.wf = true) (hw : encode i = w) : decode .test w = .op i :=
  hw ▸ decode_encode hwf

/-! ### The statements -/

/-- Settles O15: the fields of a well-formed command pass every check of R86. -/
theorem decodeOfEncodeIsTheCommand : Obligations.DecodeOfEncodeIsTheCommand := fun _ => decode_encode

/-- Settles O16: R86's checks, read backwards, leave no word of the command but its own. -/
theorem decodedWordIsItsEncoding : Obligations.DecodedWordIsItsEncoding := fun _ _ h =>
  ⟨encode_of_decode_op h, wf_of_decode_op h⟩

/-- Settles O14: each of the nine words is the word of its command. -/
theorem opcodeMapWordsDecode : Obligations.OpcodeMapWordsDecode :=
  ⟨decode_of_encode_eq rfl rfl, decode_of_encode_eq rfl rfl, decode_of_encode_eq rfl rfl, decode_of_encode_eq rfl rfl,
    decode_of_encode_eq rfl rfl, decode_of_encode_eq rfl rfl, decode_of_encode_eq rfl rfl, decode_of_encode_eq rfl rfl,
    decode_of_encode_eq rfl rfl⟩

/-- Settles O13: the fields of the number are the decoder's fields, and each clause names the check that decides. -/
theorem illegalWordRecordsTheFirstCause : Obligations.IllegalWordRecordsTheFirstCause := by
  intro w s rsv op n imm
  have hrsv : rsvField w = 0 ↔ rsv = 0 := by rw [← BitVec.toNat_inj, rsvField_toNat]; rfl
  have hop : (opField w).toNat = op := opField_toNat w
  have hop2 : opField w = 0x2 ↔ op = 2 := by rw [← BitVec.toNat_inj, hop]; rfl
  have hop4 : opField w = 0x4 ↔ op = 4 := by rw [← BitVec.toNat_inj, hop]; rfl
  have hn : (nField w).toNat = n := nField_toNat w
  have hn0 : nField w = 0 ↔ n = 0 := by rw [← BitVec.toNat_inj, hn]; rfl
  have himm0 : immField w = 0 ↔ imm = 0 := by rw [← BitVec.toNat_inj, immField_toNat]; rfl
  have hraise {m : Mode} {c : Cause} (hm : s.mode = m) (hc : decode m w = .illegal c) :
      Machine.cmdWrite w s = .next (s.raiseIllegal c) := Machine.cmdWrite_of_illegal (hm ▸ hc)
  refine ⟨fun hm => ?_, fun hm h1 => ?_, fun hm h1 h2 => ?_, fun hm h1 h2 h3 => ?_, fun hm h1 h2 h3 h4 => ?_⟩
  · exact hraise hm (decode_run w)
  · exact hraise hm (decode_test_rsv (mt hrsv.1 h1))
  · exact hraise hm (decode_test_reserved (hrsv.2 h1) (hop ▸ h2))
  · exact hraise hm (decode_test_range (hrsv.2 h1) (by omega) ⟨hop2.2 h2, hn ▸ h3⟩)
  · refine hraise hm (decode_test_field (hrsv.2 h1) (hop ▸ h2) ?_ ?_)
    · rwa [hop2, hn]
    · rwa [ne_eq, hop2, ne_eq, hn0, ne_eq, hop4, ne_eq, himm0]

/-! ### Words that meet the hypotheses -/

/-- O15 at the largest count that DRAW takes. -/
theorem witness_draw_eight_decodes_back : decode .test (encode (.draw 8)) = .op (.draw 8) :=
  decodeOfEncodeIsTheCommand (.draw 8) rfl

/-- O16 at FILTER's word with the least operand, -128. -/
theorem witness_filter_word_is_its_encoding : encode (.filter 0x80) = 0x00004080 ∧ (Instr.filter 0x80).wf = true :=
  decodedWordIsItsEncoding 0x00004080 (.filter 0x80) (by decide)

/-- O13 where two causes apply: DRAW's count is out of range and IMM8 is not 0, and the range is recorded. -/
theorem witness_range_before_field (s : Machine.State) (hm : s.mode = .test) :
    Machine.cmdWrite 0x00002901 s = .next { s with err := true, cause := 4 } := by
  obtain ⟨-, -, -, hrange, -⟩ := illegalWordRecordsTheFirstCause 0x00002901 s
  exact hrange hm (by decide) (by decide) (by decide)

end Sys2Proof
end

section
/-! SUPPORT. The scheduler's own steps beside the commands that run the same rules (`30_encoding.md` R81), and the statement O38. -/

namespace Sys2Proof.Machine

/-- The overflow step's work reads neither the mode nor what is still to come. -/
theorem ovfApply_mode_agenda (s : State) (m : Mode) (es : List Event) :
    ovfApply { s with mode := m, agenda := es } = { ovfApply s with mode := m, agenda := es } := by
  rcases ovfApply_cases s with ⟨hc, hs⟩ | ⟨hc, hs⟩ <;> rw [hs]
  · rcases ovfApply_cases { s with mode := m, agenda := es } with ⟨-, ht⟩ | ⟨hc', -⟩
    · exact ht
    · exact absurd hc hc'
  · rcases ovfApply_cases { s with mode := m, agenda := es } with ⟨hc', -⟩ | ⟨-, ht⟩
    · exact absurd hc' hc
    · exact ht

/-- In phase IDLE SEQ's turn is an observe-and-clear, if RUN mode and a tick enable it (`44_scheduler.md` R172). -/
theorem seqTurn_of_idle {s : State} (hp : s.phase = .idle) :
    seqTurn s = if s.mode = .run ∧ s.tick = true then observeAndClear s else s := by
  simp only [seqTurn, hp]

/-- In phase UPDATING SEQ's turn is an update cycle, if RUN mode enables it (R173). -/
theorem seqTurn_of_updating {s : State} (hp : s.phase = .updating) :
    seqTurn s = if s.mode = .run then updateCycle s else s := by
  simp only [seqTurn, hp]

/-- A command put to a machine set to TEST mode has its effect. -/
theorem effect_of_inTest {s e u : State} (hm : s.mode = .test) (h : s.inTest e = .next u) : u = e := by
  rw [inTest_test hm] at h
  injection h with h
  exact h.symm

/-- Settles O38: the command and the scheduler's step apply one rule, which reads neither the mode nor the agenda. -/
theorem testCommandsAreTheSchedulersTwins : Obligations.TestCommandsAreTheSchedulersTwins := by
  intro s rest hc hm hb
  refine ⟨fun u ha hp hu => ?_, fun u ha hu => ?_, fun u ha hp ht hu => ?_⟩
  · have hu := effect_of_inTest rfl hu
    calc step s = .next (seqTurn (s.withAgenda rest)) := step_of_cons hc ha
      _ = .next (updateCycle (s.withAgenda rest)) := 
        congrArg _ ((seqTurn_of_updating (s := s.withAgenda rest) hp).trans (if_pos hm))
      _ = _ := by
        rw [hu, ← hm]
        rfl
  · have hu : u = { ovfApply s with mode := .test, agenda := s.agenda } :=
      (effect_of_inTest rfl hu).trans (ovfApply_mode_agenda s .test s.agenda)
    calc step s = .next (overflowStep (s.withAgenda rest)) := step_of_cons hc ha
      _ = .next (ovfApply { s with mode := s.mode, agenda := rest }) := congrArg _ (if_pos ⟨hm, hb⟩)
      _ = _ := by
        rw [ovfApply_mode_agenda, hu, hm]
  · have hu := effect_of_inTest rfl hu
    have hres : u.res = 1 := by
      rw [hu]
      exact congrArg zextBit ht
    refine ⟨hres, ?_⟩
    calc step s = .next (seqTurn (s.withAgenda rest)) := step_of_cons hc ha
      _ = .next (observeAndClear (s.withAgenda rest)) := 
        congrArg _ ((seqTurn_of_idle (s := s.withAgenda rest) hp).trans (if_pos ⟨hm, ht⟩))
      _ = _ := by
        rw [hu, ← hm]
        rfl

/-- O38 at an expiry: OVF's effect on a counter of 1 is the overflow step's. -/
theorem witness_ovf_twin :
    ∃ u, exec .ovf { State.reset with phase := .idle, cnt := 1, agenda := [.ovf], mode := .test } = .next u ∧
      step { State.reset with phase := .idle, cnt := 1, agenda := [.ovf] } = .next { u with mode := .run, agenda := [] } := by
  obtain ⟨-, hovf, -⟩ := testCommandsAreTheSchedulersTwins { State.reset with phase := .idle, cnt := 1, agenda := [.ovf] } []
    (by decide) rfl (by decide)
  exact ⟨_, rfl, hovf _ rfl rfl⟩

end Sys2Proof.Machine
end

section
/-! SUPPORT. SEQ's turns in a row, and the wait they reach (`30_encoding.md` R87, `44_scheduler.md` R176), and the statement O45. -/

namespace Sys2Proof.Machine

/-! ### A run of turns is SEQ's turn, iterated -/

theorem bootStep_withAgenda (s : State) (es : List Event) : bootStep (s.withAgenda es) = (bootStep s).withAgenda es := by
  have hseed : (s.withAgenda es).seedWrite s.bootSeed = (s.seedWrite s.bootSeed).withAgenda es :=
    s.seedWriteSome_withAgenda 0xF s.bootSeed es
  have hboot : (s.withAgenda es).bootSeed = s.bootSeed := rfl
  rw [bootStep, hboot, hseed]
  rfl

/-- No step of SEQ reads what is still to come. -/
theorem seqTurn_withAgenda (s : State) (es : List Event) : seqTurn (s.withAgenda es) = (seqTurn s).withAgenda es := by
  cases hp : s.phase with
  | boot => rw [seqTurn_of_boot hp, seqTurn_of_boot (s := s.withAgenda es) hp, bootStep_withAgenda]
  | idle =>
    rw [seqTurn_of_idle hp, seqTurn_of_idle (s := s.withAgenda es) hp]
    change (if s.mode = .run ∧ s.tick = true then observeAndClear (s.withAgenda es) else s.withAgenda es) = _
    split_ifs <;> rfl
  | updating =>
    rw [seqTurn_of_updating hp, seqTurn_of_updating (s := s.withAgenda es) hp]
    change (if s.mode = .run then updateCycle (s.withAgenda es) else s.withAgenda es) = _
    split_ifs <;> rfl

theorem seqTurn_cfg (s : State) : (seqTurn s).cfg = s.cfg := by
  rcases seqTurn_control s with h | ⟨-, -, d, h⟩ <;> exact congrArg Control.cfg h

theorem runFor_turns (n : Nat) {s : State} (hc : configValid s.cfg = true) (rest : List Event) :
    runFor n (s.withAgenda (List.replicate n .seq ++ rest)) = .next ((seqTurn^[n] s).withAgenda rest) := by
  induction n generalizing s with
  | zero => rfl
  | succ n ih =>
    have hstep : step (s.withAgenda (List.replicate (n + 1) .seq ++ rest)) =
        .next ((seqTurn s).withAgenda (List.replicate n .seq ++ rest)) := by
      rw [← seqTurn_withAgenda, List.replicate_succ, List.cons_append]
      exact step_of_cons (s := s.withAgenda (.seq :: _)) hc rfl
    rw [runFor_succ n hstep, ih (by rw [seqTurn_cfg]; exact hc), Function.iterate_succ_apply]

/-! ### How many turns SEQ can still use -/

/-- A bound on the turns that SEQ can use with no other agent between them (R176). -/
def State.turnsLeft (s : State) : Nat :=
  match s.phase with
  | .boot => 3
  | .idle => if s.tick then 2 else 0
  | .updating => if s.tick then 3 else 1

theorem turnsLeft_of_idle {s : State} (hp : s.phase = .idle) : s.turnsLeft = if s.tick then 2 else 0 := by
  rw [State.turnsLeft, hp]

theorem turnsLeft_of_updating {s : State} (hp : s.phase = .updating) : s.turnsLeft = if s.tick then 3 else 1 := by
  rw [State.turnsLeft, hp]

theorem turnsLeft_le (s : State) : s.turnsLeft ≤ 3 := by
  unfold State.turnsLeft
  cases s.phase <;> cases s.tick <;> decide

/-- A turn is the wait, or it uses up part of the bound. -/
theorem seqTurn_waits_or_uses (s : State) : seqTurn s = s ∨ (seqTurn s).turnsLeft < s.turnsLeft := by
  rcases seqTurn_cases s with ⟨hp, h⟩ | ⟨hp, -, ht, h⟩ | ⟨hp, -, h⟩ | ⟨-, -, h⟩ <;> rw [h]
  · right
    rw [turnsLeft_of_idle (bootStep_phase s), State.turnsLeft, hp]
    split_ifs <;> decide
  · right
    have htick : (observeAndClear s).tick = false := rfl
    rw [turnsLeft_of_idle hp, turnsLeft_of_updating rfl, ht, htick]
    decide
  · right
    have htick : (updateCycle s).tick = s.tick := rfl
    rw [turnsLeft_of_updating hp, turnsLeft_of_idle rfl, htick]
    split_ifs <;> decide
  · exact .inl rfl

theorem seqTurn_iterate_waits (n : Nat) {s : State} (hn : s.turnsLeft ≤ n) : seqTurn (seqTurn^[n] s) = seqTurn^[n] s := by
  induction n generalizing s with
  | zero => exact (seqTurn_waits_or_uses s).resolve_right (by omega)
  | succ n ih =>
    rcases seqTurn_waits_or_uses s with h | h
    · rw [Function.iterate_fixed h, h]
    · exact ih (s := seqTurn s) (by omega)

/-- Settles O45: no state has more than three turns left. -/
theorem threeTurnsReachTheWait : Obligations.ThreeTurnsReachTheWait := by
  intro s rest hinv ha
  have hrun : runFor 3 (s.withAgenda (seqUntilWait ++ rest)) = .next ((seqTurn^[3] s).withAgenda rest) :=
    runFor_turns 3 hinv.config rest
  refine ⟨(seqTurn^[3] s).withAgenda rest, ?_, rfl, ?_⟩
  · rwa [← ha] at hrun
  · rw [seqTurn_withAgenda, seqTurn_iterate_waits 3 (turnsLeft_le s)]

/-- O45 from the reset state: the boot step, and then the wait. -/
theorem witness_reset_reaches_wait :
    ∃ t, runFor 3 (State.reset.withAgenda (seqUntilWait ++ [.ovf])) = .next t ∧ t.agenda = [.ovf] ∧ seqTurn t = t :=
  threeTurnsReachTheWait _ [.ovf] (resetMeetsTheInvariant.withAgenda _) rfl

end Sys2Proof.Machine
end

section
/-! SUPPORT. The pseudo-operations of `30_encoding.md` R88, and the statement O59. -/

namespace Sys2Proof.Machine

/-- A signed 16-bit value that fills ARG by its sign is MAP's operand again (R82). -/
theorem mapOperand_signExtend (y : BitVec 16) : mapOperand (y.signExtend 32) = y.toInt := by
  have hlow : (y.signExtend 32).extractLsb' 0 16 = y := by
    ext j hj
    rw [BitVec.getElem_extractLsb', Nat.zero_add, BitVec.getLsbD_signExtend, if_pos hj, BitVec.getLsbD_eq_getElem hj]
    simp only [Bool.and_eq_right_iff_imp, decide_eq_true_eq]
    omega
  rw [mapOperand, hlow]

/-- MAP's word in TEST mode (`45_command_port.md` R190, R197). -/
theorem cmdWrite_map {s : State} (hm : s.mode = .test) :
    cmdWrite 0x00005000 s = .next (s.setRes (zext32 (intensity s.cfg (mapOperand s.arg)).toNat)) := by
  have hdecode : decode s.mode 0x00005000 = .op .map := hm ▸ decode_of_encode_eq rfl rfl
  rw [cmdWrite, hdecode]
  exact inTest_test hm _

section
variable {s : State} {rest : List Event} (hc : configValid s.cfg = true) (hb : s.phase ≠ .boot)
include hc hb

/-- The first half of MAPV: ARG takes the value written (R202). -/
theorem step_of_arg_write {v : Word} (ha : s.agenda = wr s.cfg 0x04 v :: rest) :
    step s = .next { s with agenda := rest, resp := .written, arg := v } :=
  step_of_window_write (o := 0x04) hc hb (by decide) (by decide) ha

/-- The second half: MAP's word leaves the intensity in RES. -/
theorem step_of_map_write (hm : s.mode = .test) (ha : s.agenda = wr s.cfg 0x00 0x00005000 :: rest) :
    step s = .next { s with agenda := rest, resp := .written, res := zext32 (intensity s.cfg (mapOperand s.arg)).toNat } :=
  (step_of_window_write (o := 0x00) hc hb (by decide) (by decide) ha).trans
    (cmdWrite_map (s := (s.withAgenda rest).respond .written) hm)

end

/-- Settles O59: each expansion is its accesses, taken one step at a time. -/
theorem pseudoOperationsExpand : Obligations.PseudoOperationsExpand := by
  intro s rest y hc hm hp
  have hb : s.phase ≠ .boot := by rw [hp]; decide
  refine ⟨rfl, rfl, rfl, fun ha => ?_, fun ha => ?_, fun ha => ?_⟩
  · calc runFor 2 s
        = runFor 1 { s with agenda := wr s.cfg 0x00 0x00005000 :: rest, resp := .written, arg := y.signExtend 32 } :=
          runFor_succ 1 (step_of_arg_write hc hb ha)
      _ = runFor 0 { s with agenda := rest, resp := .written, arg := y.signExtend 32,
                            res := zext32 (intensity s.cfg (mapOperand (y.signExtend 32))).toNat } :=
          runFor_succ 0 (step_of_map_write hc hb hm rfl)
      _ = _ := by
        rw [mapOperand_signExtend]
        rfl
  · have hwrite := step_of_window_write (o := 0x0C) (v := 0x00000008) hc hb (by decide) (by decide) ha
    exact hwrite.trans (writeReg_status_clear _ (by decide))
  · exact step_of_window_read (o := 0x08) hc hb (by decide) (by decide) ha

/-- O59 at a negative sample: MAPV -1197 reads it back from the sign-filled ARG. -/
theorem witness_mapv_negative :
    runFor 2 { State.reset with phase := .idle, mode := .test, agenda := mapv Config.default 0xFB53 } =
      .next { State.reset with phase := .idle, mode := .test, agenda := [], resp := .written, arg := 0xFFFFFB53, res := 152 } := by
  obtain ⟨-, -, -, hmapv, -⟩ := pseudoOperationsExpand
    { State.reset with phase := .idle, mode := .test, agenda := mapv Config.default 0xFB53 } [] 0xFB53 (by decide) rfl rfl
  exact hmapv rfl

end Sys2Proof.Machine
end

section
/-! SUPPORT. A command's word, written to CMD in TEST mode (`30_encoding.md` R84, `45_command_port.md` R190). -/

namespace Sys2Proof.Machine

/-- The word of a well-formed command runs it. -/
theorem cmdWrite_encode {i : Instr} {s : State} (hm : s.mode = .test) (hwf : i.wf = true) : cmdWrite (encode i) s = exec i s := by
  have hdecode : decode s.mode (encode i) = .op i := hm ▸ decode_encode hwf
  rw [cmdWrite, hdecode]

/-- A count that is out of range decodes to cause 4 (R86). -/
theorem decode_encode_draw_range {n : BitVec 4} (hn : 8 < n.toNat) : decode .test (encode (.draw n)) = .illegal .drawRange := by
  obtain ⟨hrsv, hop, hcount, -⟩ := Laws.EncodeFields.draw n
  refine decode_test_range hrsv ?_ ⟨hop, ?_⟩
  · rw [hop]
    exact opcode_lt (.draw n)
  · rwa [hcount]

end Sys2Proof.Machine
end

section
/-! SUPPORT. The LFSR step as a map on words (`40_bitsource.md` R110, R111), and the statements O21 and O2. -/

namespace Sys2Proof.Machine

theorem lfsrStep_state (w : Word) : (lfsrStep w).1 = if w.getLsbD 0 then w >>> 1 ^^^ poly else w >>> 1 := rfl

theorem lfsrStep_bit (w : Word) : (lfsrStep w).2 = w.getLsbD 0 := rfl

/-- R111 (b): the feedback constant has bit 31, so that bit tells whether it was applied. -/
theorem lfsrStep_top_bit (w : Word) : (lfsrStep w).1.getLsbD 31 = (lfsrStep w).2 := by
  rw [lfsrStep_state, lfsrStep_bit]
  cases w.getLsbD 0 <;> simp [poly]

/-- The inverse that R111 gives. -/
def lfsrBack (u : Word) : Word := if u.getLsbD 31 then ((u ^^^ poly) <<< 1) + 1 else u <<< 1

/-- A word is its upper bits, shifted back, and bit 0. -/
theorem shiftRight_shiftLeft_add_bit (w : Word) : (w >>> 1) <<< 1 + zextBit (w.getLsbD 0) = w := by
  have hbit : w.getLsbD 0 = decide (w.toNat % 2 = 1) := Nat.testBit_zero w.toNat
  apply BitVec.eq_of_toNat_eq
  by_cases hodd : w.toNat % 2 = 1
  · simp only [hbit, hodd, decide_true, zextBit, if_true]
    bv_omega
  · simp only [hbit, hodd, decide_false, zextBit, Bool.false_eq_true, if_false]
    bv_omega

theorem lfsrBack_lfsrStep (w : Word) : lfsrBack (lfsrStep w).1 = w := by
  have hjoin := shiftRight_shiftLeft_add_bit w
  rw [lfsrBack, lfsrStep_top_bit, lfsrStep_state, lfsrStep_bit]
  cases hb : w.getLsbD 0 with
  | true =>
    simp only [hb, zextBit, if_true] at hjoin ⊢
    rw [BitVec.xor_assoc, BitVec.xor_self, BitVec.xor_zero, hjoin]
  | false => simpa only [hb, zextBit, Bool.false_eq_true, if_false, add_zero] using hjoin

/-- There are finitely many words, so the left inverse is a right inverse too. -/
theorem lfsrStep_lfsrBack (u : Word) : (lfsrStep (lfsrBack u)).1 = u := by
  have hfinite : Finite Word := Finite.of_injective BitVec.toFin fun _ _ => BitVec.eq_of_toFin_eq
  have hleft : Function.LeftInverse lfsrBack fun w => (lfsrStep w).1 := lfsrBack_lfsrStep
  exact hleft.rightInverse_of_surjective (Finite.surjective_of_injective hleft.injective) u

/-! ### The statements -/

/-- Settles O21: bit 31 of the new state is the emitted bit, so the step can be undone. -/
theorem lfsrStepIsABijection : Obligations.LfsrStepIsABijection :=
  ⟨fun _ => lfsrStep_ne_zero, lfsrBack_lfsrStep, lfsrStep_lfsrBack, lfsrStep_top_bit⟩

/-- Settles O2: the new state and the bit are the two components of R110's step. -/
theorem stepCommandShiftsTheLfsr : Obligations.StepCommandShiftsTheLfsr := by
  intro s hm
  refine ⟨?_, cmdWrite_encode (i := .step) hm rfl⟩
  calc exec .step s = s.inTest ((s.setLfsr (lfsrStep s.lfsr).1).setRes (zextBit (lfsrStep s.lfsr).2)) := rfl
    _ = .next ((s.setLfsr (lfsrStep s.lfsr).1).setRes (zextBit (lfsrStep s.lfsr).2)) := inTest_test hm _
    _ = _ := by
      rw [lfsrStep_state, lfsrStep_bit]
      rfl

end Sys2Proof.Machine
end

section
/-! SUPPORT. Several LFSR steps in a row, and the bits they emit (`40_bitsource.md` R112, `41_shaper.md` R130), and the statement O3. -/

namespace Sys2Proof.Machine

theorem lfsrIter_succ (n : Nat) (w : Word) : lfsrIter (n + 1) w = lfsrIter n (lfsrStep w).1 := rfl

theorem lfsrIter_add (m n : Nat) (w : Word) : lfsrIter (m + n) w = lfsrIter n (lfsrIter m w) := by
  induction m generalizing w with
  | zero => rw [Nat.zero_add, lfsrIter]
  | succ m ih => rw [Nat.add_right_comm, lfsrIter_succ, ih, lfsrIter_succ]

theorem lfsrBit_succ (w : Word) (k : Nat) : lfsrBit w (k + 1) = lfsrBit (lfsrStep w).1 k := rfl

/-- The first `n` bits emitted from `w` as a number, most significant first (R112). -/
def packedBits (w : Word) (n : Nat) : Nat := ∑ k ∈ Finset.range n, lfsrBit w k * 2 ^ (n - 1 - k)

theorem packedBits_zero (w : Word) : packedBits w 0 = 0 := rfl

/-- The first bit drawn is the top one of the number. -/
theorem packedBits_succ (w : Word) (n : Nat) :
    packedBits w (n + 1) = packedBits (lfsrStep w).1 n + (lfsrStep w).2.toNat * 2 ^ n := by
  rw [packedBits, Finset.sum_range_succ', packedBits]
  congr 1
  refine Finset.sum_congr rfl fun k _ => ?_
  rw [lfsrBit_succ, show n + 1 - 1 - (k + 1) = n - 1 - k by omega]

/-- The loop of R112 appends the bits it draws to the value so far. -/
theorem drawLoop_eq (n : Nat) (w : Word) (v : Nat) : drawLoop n (w, v) = (lfsrIter n w, v * 2 ^ n + packedBits w n) := by
  induction n generalizing w v with
  | zero => rw [drawLoop, lfsrIter, packedBits_zero, pow_zero, mul_one, add_zero]
  | succ n ih =>
    rw [drawLoop, ih, lfsrIter_succ, packedBits_succ, pow_succ]
    congr 1
    ring

theorem draw_eq (w : Word) (n : Nat) : draw w n = (lfsrIter n w, packedBits w n) := by
  rw [draw, drawLoop_eq, zero_mul, zero_add]

/-- DRAW with a count in range (R194). -/
theorem exec_draw_of_le {n : BitVec 4} {s : State} (hm : s.mode = .test) (hn : n.toNat ≤ 8) :
    exec (.draw n) s = .next { s with lfsr := lfsrIter n.toNat s.lfsr, res := BitVec.ofNat 32 (packedBits s.lfsr n.toNat) } := by
  calc exec (.draw n) s = .next ((s.setLfsr (draw s.lfsr n.toNat).1).setRes (zext32 (draw s.lfsr n.toNat).2)) :=
        (inTest_test hm _).trans (congrArg _ (if_pos hn))
    _ = _ := by
      rw [draw_eq]
      rfl

/-- DRAW with a count out of range is illegal (R194). -/
theorem exec_draw_of_lt {n : BitVec 4} {s : State} (hm : s.mode = .test) (hn : 8 < n.toNat) :
    exec (.draw n) s = .next (s.raiseIllegal .drawRange) :=
  (inTest_test hm _).trans (congrArg _ (if_neg (Nat.not_le.2 hn)))

/-- DRAW's word carries its count in bits 11:8 (`30_encoding.md` R84). -/
theorem encode_draw_eq (n : BitVec 4) : encode (.draw n) = 0x00002000 + 256 * n.setWidth 32 := by
  revert n
  decide

/-- Settles O3: the loop's value is the sum of the bits by their weights, and the decoder and the command agree on the range of n. -/
theorem drawPacksBitsMostSignificantFirst : Obligations.DrawPacksBitsMostSignificantFirst := by
  intro n s hm
  refine ⟨exec_draw_of_le hm, exec_draw_of_lt hm, ?_⟩
  rw [← encode_draw_eq]
  rcases Nat.lt_or_ge 8 n.toNat with hn | hn
  · rw [exec_draw_of_lt hm hn]
    exact cmdWrite_of_illegal (hm ▸ decode_encode_draw_range hn)
  · exact cmdWrite_encode hm (decide_eq_true hn)

/-- O3 at a draw of two bits from the state 2: first 0, which becomes bit 1, then 1. -/
theorem witness_draw_two_bits :
    ∃ t, exec (.draw 2) { State.reset with mode := .test, lfsr := 2 } = .next t ∧ t.lfsr = 0xA3AC183C ∧ t.res = 1 := by
  obtain ⟨hdraw, -⟩ := drawPacksBitsMostSignificantFirst 2 { State.reset with mode := .test, lfsr := 2 } rfl
  exact ⟨_, hdraw (by decide), by decide, by decide⟩

end Sys2Proof.Machine
end

section
/-! SUPPORT. The boot step and resets in a row (`40_bitsource.md` R113, R114, `44_scheduler.md` R171), and the statements O26 and O27. -/

namespace Sys2Proof.Machine

/-! ### The adjusted seed (R113) -/

theorem seedAdjust_always (v : Word) : seedAdjust .always v = if v = 0xFFFFFFFF then 1 else v + 1 := by
  have hwrap : v + 1 = 0 ↔ v = 0xFFFFFFFF := ⟨fun h => by bv_omega, fun h => by rw [h]; rfl⟩
  simp only [seedAdjust, hwrap]
  split_ifs with h
  · rw [h]
    rfl
  · rfl

theorem seedAdjust_ifZero (v : Word) : seedAdjust .ifZero v = if v = 0 then 1 else v := by
  simp only [seedAdjust]
  split_ifs with h
  · rw [h]
    rfl
  · rfl

theorem bootSeed_ne_zero (s : State) : s.bootSeed ≠ 0 := seedAdjust_ne_zero _ _

/-- What is still to come and a reset leave the seed word alone, and so the seed of the next boot step. -/
theorem bootSeed_withAgenda (s : State) (es : List Event) : (s.withAgenda es).bootSeed = s.bootSeed := rfl

theorem bootSeed_resetBlock (test : Bool) (s : State) : (resetBlock test s).bootSeed = s.bootSeed := rfl

/-- The seed word is read from the store, at the address that the configuration gives. -/
theorem seedRead_of_store_eq {s t : State} (hstore : t.store = s.store) (hcfg : t.cfg = s.cfg) : t.seedRead = s.seedRead := by
  simp only [State.seedRead, State.storeByte, hstore, hcfg]

/-- The seed word as the number that the four bytes make (R52). -/
theorem seedRead_eq_ofNat (s : State) :
    s.seedRead = BitVec.ofNat 32
      ((s.storeByte (s.cfg.seedAddr + 0)).toNat + 2 ^ 8 * (s.storeByte (s.cfg.seedAddr + 1)).toNat +
        2 ^ 16 * (s.storeByte (s.cfg.seedAddr + 2)).toNat + 2 ^ 24 * (s.storeByte (s.cfg.seedAddr + 3)).toNat) := by
  rw [← wordOfLanes_toNat, ← State.seedRead_eq, BitVec.ofNat_toNat, BitVec.setWidth_eq]

/-- The next boot step reads what this one wrote (R114). -/
theorem bootSeed_bootStep {s : State} (hwf : Memory.wf s = true) :
    (bootStep s).bootSeed = seedAdjust s.cfg.seedAdvance s.bootSeed := by
  obtain ⟨-, hback, -⟩ := seedWordReadsBack s s.bootSeed hwf
  have hcfg : (bootStep s).cfg = (s.seedWrite s.bootSeed).cfg := (bootStep_cfg s).trans (s.seedWrite_cfg _).symm
  have hread : (bootStep s).seedRead = s.bootSeed := (seedRead_of_store_eq (bootStep_store s) hcfg).trans hback
  rw [State.bootSeed, hread, bootStep_cfg]

/-! ### The step in phase BOOT (R171, `70_reset_and_hazards.md` R251) -/

/-- The boot step changes LFSR, SEEDW, the phase and the store. -/
theorem bootStep_eq (s : State) :
    bootStep s = { s with lfsr := s.bootSeed, seedw := s.bootSeed, phase := .idle, store := (bootStep s).store } := by
  rw [bootStep, State.seedWrite, State.seedWriteSome_eq]

theorem State.withAgenda_withAgenda (s : State) (es es' : List Event) : (s.withAgenda es).withAgenda es' = s.withAgenda es' := rfl

theorem State.storeByte_withAgenda (s : State) (es : List Event) (a : Nat) : (s.withAgenda es).storeByte a = s.storeByte a := rfl

/-- The boot step writes no byte but the seed's (`20_memory.md` R51). -/
theorem storeByte_bootStep_other {s : State} {a : Nat} (hout : a < s.cfg.seedAddr ∨ s.cfg.seedAddr + 4 ≤ a) :
    (bootStep s).storeByte a = s.storeByte a :=
  (State.storeByte_of_store_eq (bootStep_store s) a).trans (s.storeByte_seedWriteSome_other 0xF s.bootSeed hout)

/-- An access finds the boot step still to run. -/
theorem eventStep_of_waitsForBoot {s : State} {e : Event} (hb : s.phase = .boot) (he : e.waitsForBoot = true) (rest : List Event) :
    eventStep e rest s = .next (bootStep s) := by
  cases e with
  | read | write | storeRead | storeWrite => exact if_pos hb
  | seq | ovf | reset | powerCycle => nomatch he

/-- The three places of the boot step: SEQ's turn, an empty agenda, and in front of an access that waits. -/
theorem step_of_boot {s : State} {left : List Event} (hc : configValid s.cfg = true) (hb : s.phase = .boot)
    (ha : s.agenda = .seq :: left ∨ (s.agenda = left ∧ ∀ e ∈ left.head?, e.waitsForBoot = true)) :
    step s = .next ((bootStep s).withAgenda left) := by
  rcases ha with ha | ⟨rfl, hwait⟩
  · rw [step_of_cons hc ha, ← bootStep_withAgenda, ← seqTurn_of_boot (s := s.withAgenda left) hb, eventStep]
  · have hsame : s.withAgenda s.agenda = s := rfl
    rw [← bootStep_withAgenda, hsame]
    cases ha : s.agenda with
    | nil => rw [step_of_nil hc ha, seqTurn_of_boot hb]
    | cons e rest => rw [step_of_cons hc ha, eventStep_of_waitsForBoot hb (hwait e (by rw [ha]; rfl))]

/-! ### A reset and its boot step -/

/-- A run of `m + n` steps is a run of `m` and then one of `n`. -/
theorem runFor_add {m : Nat} {s t : State} (n : Nat) (h : runFor m s = .next t) : runFor (m + n) s = runFor n t := by
  induction m generalizing s with
  | zero =>
    injection h with h
    rw [Nat.zero_add, h]
  | succ m ih =>
    rw [Nat.add_right_comm]
    cases hs : step s with
    | next u =>
      rw [runFor_succ _ hs] at h ⊢
      exact ih h
    | fault r => simp [runFor, runWith, hs] at h
    | refused r => simp [runFor, runWith, hs] at h

/-- The state after a reset and SEQ's turn. -/
def reboot (test : Bool) (s : State) : State := bootStep (resetBlock test s)

/-- A reset does not touch the seed that the boot step starts from (R250). -/
theorem reboot_lfsr (test : Bool) (s : State) : (reboot test s).lfsr = s.bootSeed := rfl

theorem reboot_lfsr_ne_zero (test : Bool) (s : State) : (reboot test s).lfsr ≠ 0 := bootSeed_ne_zero s

theorem reboot_cfg (test : Bool) (s : State) : (reboot test s).cfg = s.cfg := bootStep_cfg _

/-- The seed of the next boot, whatever is still to come. -/
theorem bootSeed_reboot {s : State} (hwf : Memory.wf s = true) (test : Bool) (es : List Event) :
    ((reboot test s).withAgenda es).bootSeed = seedAdjust s.cfg.seedAdvance (reboot test s).lfsr := by
  rw [bootSeed_withAgenda, reboot_lfsr, reboot, bootSeed_bootStep (s := resetBlock test s) hwf, bootSeed_resetBlock,
    resetBlock_cfg]

theorem runFor_reboot {s : State} {test : Bool} {rest : List Event} (hc : configValid s.cfg = true)
    (ha : s.agenda = .reset test :: .seq :: rest) : runFor 2 s = .next ((reboot test s).withAgenda rest) := by
  have hreset : step s = .next ((resetBlock test s).withAgenda (.seq :: rest)) := step_of_cons hc ha
  have hboot : step ((resetBlock test s).withAgenda (.seq :: rest)) = .next ((reboot test s).withAgenda rest) := by
    rw [step_of_boot (s := (resetBlock test s).withAgenda (.seq :: rest)) hc rfl (.inl rfl), bootStep_withAgenda,
      State.withAgenda_withAgenda, reboot]
  rw [runFor_succ 1 hreset, runFor_succ 0 hboot, runFor_zero]

/-! ### The statements -/

/-- Settles O26: the seed read is the number that the four bytes make, and the boot step's own equation gives the rest. -/
theorem bootStepAdjustsAndSavesTheSeed : Obligations.BootStepAdjustsAndSavesTheSeed := by
  intro s left hc hwf hb ha st v s0
  have hread : s.seedRead = v := seedRead_eq_ofNat s
  have hseed : s.bootSeed = s0 := by
    rw [State.bootSeed, hread]
    cases hpolicy : s.cfg.seedAdvance with
    | always => simp only [s0, hpolicy, seedAdjust_always]
    | ifZero => simp only [s0, hpolicy, seedAdjust_ifZero]
  rw [← hseed]
  refine ⟨(bootStep s).withAgenda left, step_of_boot hc hb ha, ?_, bootSeed_ne_zero s, fun i hi => ?_, fun a hout => ?_⟩
  · exact congrArg (State.withAgenda left) (bootStep_eq s)
  · rw [State.storeByte_withAgenda, (State.canonical_of_wf hwf).storeByte_bootStep hi, byteOf_toNat]
  · rw [State.storeByte_withAgenda, storeByte_bootStep_other hout]

/-- Settles O27: the second boot adjusts the seed that the first one saved. -/
theorem consecutiveBootsAdvanceTheSeed : Obligations.ConsecutiveBootsAdvanceTheSeed := by
  intro s rest a b hc hwf ha
  have hfirst := runFor_reboot hc ha
  have hc' : configValid ((reboot a s).withAgenda (.reset b :: .seq :: rest)).cfg = true := by
    rw [State.withAgenda_cfg, reboot_cfg]
    exact hc
  have hseed := bootSeed_reboot hwf a (.reset b :: .seq :: rest)
  refine ⟨_, _, hfirst, (runFor_add 2 hfirst).trans (runFor_reboot hc' rfl), rfl, fun hpolicy => ?_, fun hpolicy => ?_⟩
  · rw [hpolicy, seedAdjust_always] at hseed
    exact hseed
  · rw [hpolicy, seedAdjust_ifZero, if_neg (reboot_lfsr_ne_zero a s)] at hseed
    exact hseed

/-! ### Runs that meet the hypotheses -/

/-- O26 in front of a waiting read, over a stored 0xFFFFFFFF: the seed skips 0. -/
theorem witness_boot_in_front_of_read :
    ∃ t, step { State.reset with store := [(0, 0xFF), (1, 0xFF), (2, 0xFF), (3, 0xFF)], agenda := [.read .b4 0x10] } = .next t ∧
      t.agenda = [.read .b4 0x10] ∧ (t.storeByte 0).toNat = 1 ∧ (t.storeByte 3).toNat = 0 := by
  obtain ⟨t, hstep, ht, -, hbytes, -⟩ := bootStepAdjustsAndSavesTheSeed
    { State.reset with store := [(0, 0xFF), (1, 0xFF), (2, 0xFF), (3, 0xFF)], agenda := [.read .b4 0x10] } [.read .b4 0x10]
    (by decide) (by decide) rfl (.inr ⟨rfl, by decide⟩)
  exact ⟨t, hstep, congrArg State.agenda ht, (hbytes 0 (by decide)).trans (by decide), (hbytes 3 (by decide)).trans (by decide)⟩

/-- O27 under IF_ZERO: both boots start from the same seed, a stored 0 too. -/
theorem witness_if_zero_repeats_seed :
    ∃ t u, runFor 2 { State.reset with cfg := { Config.default with seedAdvance := .ifZero },
                                       agenda := [.reset true, .seq, .reset false, .seq] } = .next t ∧
      runFor 4 { State.reset with cfg := { Config.default with seedAdvance := .ifZero },
                                  agenda := [.reset true, .seq, .reset false, .seq] } = .next u ∧ u.lfsr = t.lfsr := by
  obtain ⟨t, u, ht, hu, -, -, hsame⟩ := consecutiveBootsAdvanceTheSeed
    { State.reset with cfg := { Config.default with seedAdvance := .ifZero },
                       agenda := [.reset true, .seq, .reset false, .seq] } [] true false (by decide) (by decide) rfl
  exact ⟨t, u, ht, hu, hsame rfl⟩

end Sys2Proof.Machine
end

section
/-! SUPPORT. Who moves the LFSR (`10_state.md` R24, `40_bitsource.md` R115): once, what each command, access and step does to it, and the
statement O46. -/

namespace Sys2Proof.Machine

/-! ### The shaper's steps (`41_shaper.md` R130) -/

theorem draw_lfsr (w : Word) (n : Nat) : (draw w n).1 = lfsrIter n w := by rw [draw_eq]

theorem binomLoop_lfsr (n : Nat) (w : Word) (acc : Int) : (binomLoop n (w, acc)).1 = lfsrIter n w := by
  induction n generalizing w acc with
  | zero => rfl
  | succ n ih => rw [binomLoop, ih, lfsrIter_succ]

/-- Sixteen steps, and two draws of four bits. -/
theorem normal_lfsr (w : Word) : (normal w).1 = lfsrIter 24 w := by
  calc (normal w).1 = lfsrIter 4 (lfsrIter 4 (lfsrIter 16 w)) := by
        simp only [normal, draw_lfsr, binomLoop_lfsr]
    _ = lfsrIter 24 w := by
      rw [← lfsrIter_add, ← lfsrIter_add]

/-! ### The agents' own steps -/

theorem ovfApply_lfsr (s : State) : (ovfApply s).lfsr = s.lfsr := by
  rcases ovfApply_cases s with ⟨-, h⟩ | ⟨-, h⟩ <;> rw [h]

theorem overflowStep_lfsr (s : State) : (overflowStep s).lfsr = s.lfsr := by
  rcases overflowStep_cases s with ⟨-, -, h⟩ | ⟨-, h⟩ <;> rw [h]
  exact ovfApply_lfsr s

theorem updateApply_lfsr (s : State) : (updateApply s).1.lfsr = lfsrIter 24 s.lfsr := normal_lfsr s.lfsr

/-- After the boot step SEQ's turn moves the LFSR in an update cycle alone. -/
theorem seqTurn_lfsr {s : State} (hb : s.phase ≠ .boot) :
    (seqTurn s).lfsr = if s.mode = .run ∧ s.phase = .updating then lfsrIter 24 s.lfsr else s.lfsr := by
  rcases seqTurn_cases s with ⟨hp, -⟩ | ⟨hp, -, -, h⟩ | ⟨hp, hm, h⟩ | ⟨-, hw, h⟩
  · exact absurd hp hb
  · rw [h, if_neg (by simp [hp])]
    rfl
  · rw [h, if_pos ⟨hm, hp⟩]
    exact updateApply_lfsr s
  · rw [h, if_neg]
    rintro ⟨hm, hp⟩
    rcases hw with hw | ⟨hw, -⟩
    · exact nomatch hm.symm.trans hw
    · exact nomatch hp.symm.trans hw

/-! ### Commands -/

/-- How many LFSR steps a command takes (R115). -/
def lfsrSteps : Instr → Nat
  | .step => 1
  | .draw n => n.toNat
  | .normal | .update => 24
  | .nop | .filter _ | .map | .ovf | .take => 0

theorem exec_lfsr {i : Instr} {s t : State} (hm : s.mode = .test) (hwf : i.wf = true) (h : exec i s = .next t) :
    t.lfsr = lfsrIter (lfsrSteps i) s.lfsr := by
  cases i with
  | nop | step | filter _ | map | take =>
    rw [effect_of_inTest hm h]
    rfl
  | draw n =>
    injection h.symm.trans (exec_draw_of_le hm (of_decide_eq_true hwf)) with ht
    exact ht ▸ rfl
  | normal =>
    rw [effect_of_inTest hm h]
    exact normal_lfsr s.lfsr
  | update =>
    rw [effect_of_inTest hm h]
    exact updateApply_lfsr s
  | ovf =>
    rw [effect_of_inTest hm h]
    exact ovfApply_lfsr s

/-! ### HOST's accesses -/

/-- A CMD write that runs no command leaves the LFSR alone (R190). -/
theorem cmdWrite_lfsr {w : Word} {s t : State} (h : cmdWrite w s = .next t) :
    t.lfsr = s.lfsr ∨ ∃ i, decode s.mode w = .op i ∧ exec i s = .next t := by
  rcases cmdWrite_cases h with ⟨c, -, he⟩ | ⟨i, hi, he⟩
  · injection he with he
    exact .inl (he ▸ rfl)
  · exact .inr ⟨i, hi, he.symm⟩

theorem hostRead_lfsr {w : Width} {a : Nat} {s t : State} (h : hostRead w a s = .next t) : t.lfsr = s.lfsr := by
  rcases hostRead_cases h with ⟨-, -, he⟩ | ⟨-, -, he⟩ | ⟨-, he⟩ <;> injection he with he <;> exact he ▸ rfl

/-- A HOST write moves the LFSR only as a CMD write that runs a command. -/
theorem hostWrite_lfsr {w : Width} {a : Nat} {v : Word} {s t : State} (h : hostWrite w a v s = .next t) :
    t.lfsr = s.lfsr ∨
    (w = .b4 ∧ a = s.cfg.winBase ∧ ∃ i, decode s.mode v = .op i ∧ exec i (s.respond .written) = .next t) := by
  rcases hostWrite_cases h with ⟨-, hl, he⟩ | ⟨-, -, he⟩ | ⟨-, he⟩
  · obtain ⟨hw, -, hlo, -⟩ := legalAccess_iff.1 hl
    rcases writeReg_cases he.symm with ⟨ho, hr⟩ | ⟨-, hr⟩ | ⟨-, -, hr⟩ | ⟨-, -, hr⟩ | ⟨-, -, -, hr⟩
    · rcases cmdWrite_lfsr hr.symm with hk | hrun
      · exact .inl hk
      · exact .inr ⟨hw, by omega, hrun⟩
    all_goals
      injection hr with hr
      exact .inl (hr ▸ rfl)
  all_goals
    injection he with he
    exact .inl (he ▸ rfl)

theorem hostStoreRead_lfsr {a : Nat} {s t : State} (h : hostStoreRead a s = .next t) : t.lfsr = s.lfsr := by
  rcases hostStoreRead_cases h with ⟨-, he⟩ | ⟨-, he⟩
  · injection he with he
    exact he ▸ rfl
  · nomatch he

theorem hostStoreWrite_lfsr {a : Nat} {v : Byte} {s t : State} (h : hostStoreWrite a v s = .next t) : t.lfsr = s.lfsr := by
  rcases hostStoreWrite_cases h with ⟨-, he⟩ | ⟨-, he⟩
  · injection he with he
    exact he ▸ rfl
  · nomatch he

/-! ### The step -/

/-- SEQ's turn is an update cycle in RUN mode and phase UPDATING, and only there (`44_scheduler.md` R176). -/
theorem isUpdate_of_seqTurn {s : State} (h : s.isSeqTurn = true) : s.isUpdate = decide (s.mode = .run ∧ s.phase = .updating) := by
  rw [State.isUpdate, h, Bool.true_and, Bool.decide_and]

/-- Any other event is no update cycle. -/
theorem isUpdate_of_cons {s : State} {e : Event} {rest : List Event} (ha : s.agenda = e :: rest) (he : e ≠ .seq) :
    s.isUpdate = false := by
  simp [State.isUpdate, State.isSeqTurn, ha, he]

/-- Everything a step that is no reset can do to the LFSR after the boot step. -/
theorem step_lfsr {s t : State} (h : step s = .next t) (hb : s.phase ≠ .boot) (hno : s.noReset) :
    (s.isUpdate = true ∧ t.lfsr = lfsrIter 24 s.lfsr) ∨
    (s.isUpdate = false ∧ t.lfsr = s.lfsr) ∨
    (∃ w i rest, s.agenda = .write .b4 s.cfg.winBase w :: rest ∧ decode s.mode w = .op i ∧
      exec i ((s.withAgenda rest).respond .written) = .next t) := by
  have hturn (hseq : s.isSeqTurn = true) (ht : t.lfsr = (seqTurn s).lfsr) :
      (s.isUpdate = true ∧ t.lfsr = lfsrIter 24 s.lfsr) ∨ (s.isUpdate = false ∧ t.lfsr = s.lfsr) := by
    rw [isUpdate_of_seqTurn hseq, ht, seqTurn_lfsr hb]
    by_cases hup : s.mode = .run ∧ s.phase = .updating
    · exact .inl ⟨decide_eq_true hup, if_pos hup⟩
    · exact .inr ⟨decide_eq_false hup, if_neg hup⟩
  obtain ⟨-, ⟨ha, rfl⟩ | ⟨e, rest, ha, hevent⟩⟩ := step_cases h
  · exact (hturn (by simp [State.isSeqTurn, ha]) rfl).imp_right .inl
  · rcases hevent with ⟨rfl, rfl⟩ | ⟨rfl, rfl⟩ | ⟨test, rfl, -⟩ | ⟨test, torn, rfl, -⟩ | ⟨hp, -, -⟩ | ⟨-, haccess⟩
    · exact (hturn (by simp [State.isSeqTurn, ha]) (by rw [seqTurn_withAgenda]; rfl)).imp_right .inl
    · exact .inr (.inl ⟨isUpdate_of_cons ha nofun, overflowStep_lfsr _⟩)
    · exact nomatch (noReset_of_cons ha).1 hno
    · exact nomatch (noReset_of_cons ha).1 hno
    · exact absurd hp hb
    · rcases haccess with ⟨w, a, rfl, ht⟩ | ⟨w, a, v, rfl, ht⟩ | ⟨a, rfl, ht⟩ | ⟨a, v, rfl, ht⟩
      · exact .inr (.inl ⟨isUpdate_of_cons ha nofun, hostRead_lfsr (s := s.withAgenda rest) ht⟩)
      · rcases hostWrite_lfsr ht with hk | ⟨rfl, rfl, i, hi, hrun⟩
        · exact .inr (.inl ⟨isUpdate_of_cons ha nofun, hk⟩)
        · exact .inr (.inr ⟨v, i, rest, ha, hi, hrun⟩)
      · exact .inr (.inl ⟨isUpdate_of_cons ha nofun, hostStoreRead_lfsr (s := s.withAgenda rest) ht⟩)
      · exact .inr (.inl ⟨isUpdate_of_cons ha nofun, hostStoreWrite_lfsr (s := s.withAgenda rest) ht⟩)

/-! ### The statement -/

/-- Settles O46: each command takes its own number of steps, and no other agent's step but an update cycle takes any. -/
theorem lfsrMovesOnlyByItsStep : Obligations.LfsrMovesOnlyByItsStep := by
  refine ⟨fun i s t hm hwf h => ?_, fun s t h hb hno => step_lfsr h hb hno⟩
  have hlfsr := exec_lfsr hm hwf h
  cases i <;> exact hlfsr

/-! ### Runs that meet the hypotheses -/

/-- O46 at an update cycle. -/
theorem witness_update_cycle_takes_24_steps :
    ∃ t, step { State.reset with phase := .updating, lfsr := 2, agenda := [.seq] } = .next t ∧ t.lfsr = lfsrIter 24 2 := by
  refine ⟨_, rfl, ?_⟩
  obtain ⟨-, hmoves⟩ := lfsrMovesOnlyByItsStep
  rcases hmoves { State.reset with phase := .updating, lfsr := 2, agenda := [.seq] } _ rfl (by decide) (by decide) with
    ⟨-, hlfsr⟩ | ⟨hno, -⟩ | ⟨w, i, rest, ha, -⟩
  · exact hlfsr
  · nomatch hno
  · nomatch ha

end Sys2Proof.Machine
end

section
/-! SUPPORT. The filter without overflow: with `BW60` from the zero state no wrap changes a value (`42_filter.md` R144, R145), and the
statement O24. -/

namespace Sys2Proof.Machine

/-! ### An invocation whose accumulator stays small -/

theorem accumulator_bw60 {z1 x : Int} (hlo : -128 ≤ x) (hhi : x ≤ 127) (hy : |4400 * x + z1| < 2 ^ 23) :
    accumulator FilterCfg.bw60 z1 x = 4400 * x + z1 := by
  obtain ⟨hylo, hyhi⟩ := abs_lt.1 hy
  have hshift : asr (4400 * x) 0 = 4400 * x := by rw [asr_eq_ediv, pow_zero, Int.ediv_one]
  calc accumulator FilterCfg.bw60 z1 x
      = wrap 32 (wrap 32 (asr (4400 * x) 0) + z1) := rfl
    _ = wrap 32 (4400 * x + z1) := by rw [hshift, wrap_eq_self (v := 4400 * x) (by decide) (by omega) (by omega)]
    _ = 4400 * x + z1 := wrap_eq_self (by decide) (by omega) (by omega)

theorem filter_bw60 {z : Int × Int} {x : Int} (hlo : -128 ≤ x) (hhi : x ≤ 127) (hy : |4400 * x + z.1| < 2 ^ 23)
    (hz2 : |z.2| < 2 ^ 26) :
    filter FilterCfg.bw60 z x =
      ((23249 * (4400 * x + z.1) / 16384 + z.2 / 16, -9065 * (4400 * x + z.1) / 1024), (4400 * x + z.1) / 256) := by
  have hacc := accumulator_bw60 hlo hhi hy
  generalize 4400 * x + z.1 = y at hy hacc ⊢
  obtain ⟨hylo, hyhi⟩ := abs_lt.1 hy
  obtain ⟨hzlo, hzhi⟩ := abs_lt.1 hz2
  have hz1' : wrap 32 (asr (23249 * y) 14 + asr z.2 4 + asr (0 * x) 0) = 23249 * y / 16384 + z.2 / 16 := by
    simp only [asr_eq_ediv, zero_mul, Int.zero_ediv, add_zero]
    exact wrap_eq_self (by decide) (by omega) (by omega)
  have hz2' : wrap 32 (asr (-9065 * y) 10 + asr (0 * x) 0) = -9065 * y / 1024 := by
    simp only [asr_eq_ediv, zero_mul, Int.zero_ediv, add_zero]
    exact wrap_eq_self (by decide) (by omega) (by omega)
  have hout : wrap 16 (asr y 8) = y / 256 := by
    rw [asr_eq_ediv]
    exact wrap_eq_self (by decide) (by omega) (by omega)
  calc filter FilterCfg.bw60 z x
      = ((wrap 32 (asr (23249 * accumulator FilterCfg.bw60 z.1 x) 14 + asr z.2 4 + asr (0 * x) 0),
          wrap 32 (asr (-9065 * accumulator FilterCfg.bw60 z.1 x) 10 + asr (0 * x) 0)),
          wrap 16 (asr (accumulator FilterCfg.bw60 z.1 x) 8)) := rfl
    _ = _ := by rw [hacc, hz1', hz2', hout]

/-! ### The region that the delay terms never leave -/

/-- R144's bounds on `Z1` and `Z2` are not inductive: an invocation from a state at both bounds leaves them. This hexagon lies inside them and
is inductive. Each of its three forms, read after an invocation, is a combination of the forms before it, the input and a rounding error,
and the weights of that combination keep it within the same bound. -/
def InBw60Region (z : Int × Int) : Prop :=
  |16 * z.1 + z.2| ≤ 5 * 2 ^ 23 ∧ |32 * z.1 + 3 * z.2| ≤ 2 ^ 26 ∧ |z.2| < 2 ^ 26

theorem inBw60Region_zero : InBw60Region (0, 0) := by
  unfold InBw60Region
  decide

/-- In the region the accumulator keeps R144's bound, for every input. -/
theorem InBw60Region.accumulator_lt {z : Int × Int} (h : InBw60Region z) {x : Int} (hlo : -128 ≤ x) (hhi : x ≤ 127) :
    |4400 * x + z.1| < 2 ^ 23 := by
  obtain ⟨hsum, -, hz2⟩ := h
  rw [abs_le] at hsum
  rw [abs_lt] at hz2 ⊢
  omega

theorem InBw60Region.z1_lt {z : Int × Int} (h : InBw60Region z) : |z.1| < 2 ^ 23 := by
  have hy := h.accumulator_lt (x := 0) (by decide) (by decide)
  rwa [mul_zero, zero_add] at hy

theorem InBw60Region.z2_lt {z : Int × Int} (h : InBw60Region z) : |z.2| < 2 ^ 26 := h.2.2

/-- Every input keeps the region. -/
theorem InBw60Region.filter {z : Int × Int} (h : InBw60Region z) {x : Int} (hlo : -128 ≤ x) (hhi : x ≤ 127) :
    InBw60Region (Machine.filter FilterCfg.bw60 z x).1 := by
  rw [filter_bw60 hlo hhi (h.accumulator_lt hlo hhi) h.z2_lt]
  simp only [InBw60Region, abs_le, abs_lt] at h ⊢
  obtain ⟨hsum, hmix, hz2⟩ := h
  exact ⟨by omega, by omega, by omega⟩

theorem InBw60Region.filterRun {z : Int × Int} (h : InBw60Region z) {xs : List Int} (hxs : ∀ x ∈ xs, -128 ≤ x ∧ x ≤ 127) :
    InBw60Region (Machine.filterRun FilterCfg.bw60 z xs) := by
  induction xs generalizing z with
  | nil => exact h
  | cons x xs ih =>
    obtain ⟨⟨hlo, hhi⟩, hrest⟩ := List.forall_mem_cons.1 hxs
    exact ih (h.filter hlo hhi) hrest

/-! ### The statement -/

/-- Settles O24: every run stays in the region, where no wrap changes a value. -/
theorem defaultFilterNeverOverflows : Obligations.DefaultFilterNeverOverflows := by
  intro xs hxs z
  have hz : InBw60Region z := inBw60Region_zero.filterRun hxs
  refine ⟨hz.z1_lt, hz.z2_lt, fun x hlo hhi => ?_⟩
  have hy := hz.accumulator_lt hlo hhi
  exact ⟨hy, accumulator_bw60 hlo hhi hy, by rw [filter_bw60 hlo hhi hy hz.z2_lt]⟩

/-- O24 after inputs from both ends of the range. -/
theorem witness_filter_run_of_extremes :
    let z := filterRun FilterCfg.bw60 (0, 0) [-128, 127, -128]
    |z.1| < 2 ^ 23 ∧ |z.2| < 2 ^ 26 := by
  obtain ⟨hz1, hz2, -⟩ := defaultFilterNeverOverflows [-128, 127, -128] (by decide)
  exact ⟨hz1, hz2⟩

end Sys2Proof.Machine
end

section
/-! SUPPORT. The FILTER command in bit-vector terms (`42_filter.md` R142, R143, `45_command_port.md` R196), and the statements O5 and O23. -/

namespace Sys2Proof.Machine

/-! ### Wrapped values in their registers -/

/-- A register of the width wraps anyway. -/
theorem ofInt_wrap {N : Nat} (hN : 0 < N) (v : Int) : BitVec.ofInt N (wrap N v) = BitVec.ofInt N v := by
  rw [wrap_eq_toInt_ofInt hN, BitVec.ofInt_toInt]

/-- R83: a signed 16-bit value in RES. -/
theorem sext32_wrap_16 (v : Int) : sext32 (wrap 16 v) = (BitVec.ofInt 16 v).signExtend 32 := by
  rw [wrap_eq_toInt_ofInt (by decide)]
  rfl

/-- The accumulator is a 32-bit sum (R142, step 2). -/
theorem accumulator_eq_toInt (F : FilterCfg) (z1 : Word) (x : Int) :
    accumulator F z1.toInt x = (BitVec.ofInt 32 (F.cIn * x / 2 ^ F.sIn) + z1).toInt := by
  rw [accumulator, asr_eq_ediv, wrap_eq_toInt_ofInt (by decide), BitVec.ofInt_add, ofInt_wrap (by decide), BitVec.ofInt_toInt]

/-! ### The command -/

theorem exec_filter {s : State} (hm : s.mode = .test) (x : BitVec 8) :
    exec (.filter x) s = .next
      ((s.setDelays (filter s.cfg.filter s.delays x.toInt).1).setRes (sext32 (filter s.cfg.filter s.delays x.toInt).2)) :=
  inTest_test hm _

/-- FILTER's word carries its operand in bits 7:0 (`30_encoding.md` R84). -/
theorem encode_filter_eq (x : BitVec 8) : encode (.filter x) = 0x00004000 + x.setWidth 32 := by
  have hpack : encode (.filter x) = (0#16 ++ 0x4#4 ++ 0x0#4) ++ x := rfl
  have hupper : (0#16 ++ 0x4#4 ++ 0x0#4).toNat = 0x40 := by decide
  apply BitVec.eq_of_toNat_eq
  rw [hpack, toNat_append_byte, hupper]
  bv_omega

/-- R147 (a): every step of R142 keeps 0. -/
theorem filter_zero (F : FilterCfg) : filter F (0, 0) 0 = ((0, 0), 0) := by
  have hwrap (N : Nat) : wrap N 0 = 0 := by simp [wrap]
  simp only [filter, accumulator, mul_zero, asr_eq_ediv, Int.zero_ediv, add_zero, hwrap]

/-! ### The statements -/

/-- Settles O5: a shift is a floor division, and a register of the rule's width does the wrapping. -/
theorem filterCommandFollowsItsRecord : Obligations.FilterCommandFollowsItsRecord := by
  intro x s hm F X Y
  have hY : accumulator F s.delays.1 X = Y := accumulator_eq_toInt F s.z1 X
  refine ⟨?_, encode_filter_eq x ▸ cmdWrite_encode (i := .filter x) hm rfl⟩
  rw [exec_filter hm]
  simp only [State.setDelays, State.setRes, filter, ofInt_wrap (show 0 < 32 by decide), sext32_wrap_16, asr_eq_ediv]
  rw [hY]
  rfl

/-- Settles O23: the filter's new delay terms are the old ones. -/
theorem zeroFilterStateIsAnEquilibrium : Obligations.ZeroFilterStateIsAnEquilibrium := by
  intro s hm hz1 hz2
  have hdelays : s.delays = (0, 0) := by
    rw [State.delays, hz1, hz2]
    rfl
  have hkeep : s.setDelays (0, 0) = s := by
    cases s
    cases hz1
    cases hz2
    rfl
  calc exec (.filter 0) s
      = .next ((s.setDelays (filter s.cfg.filter s.delays 0).1).setRes (sext32 (filter s.cfg.filter s.delays 0).2)) :=
        exec_filter hm 0
    _ = .next (s.setRes 0) := by
      rw [hdelays, filter_zero, hkeep]
      rfl

/-! ### Runs that meet the hypotheses -/

/-- O5 at the operand -1 with `BW60` (`95_test_vectors.md` section 4.1): `Z1` is floored. -/
theorem witness_filter_floors :
    ∃ t, exec (.filter 0xFF) { State.reset with mode := .test } = .next t ∧ t.z1.toInt = -6244 ∧ t.res = 0xFFFFFFEE := by
  obtain ⟨hfilter, -⟩ := filterCommandFollowsItsRecord 0xFF { State.reset with mode := .test } rfl
  exact ⟨_, hfilter, by decide, by decide⟩

/-- O23 over an old result. -/
theorem witness_zero_filter_clears_res :
    exec (.filter 0) { State.reset with mode := .test, res := 7 } = .next { State.reset with mode := .test, res := 0 } :=
  zeroFilterStateIsAnEquilibrium { State.reset with mode := .test, res := 7 } rfl rfl rfl

end Sys2Proof.Machine
end

section
/-! SUPPORT. The intensity mapper as a floor division inside a `max` and a `min` (`43_mapper.md` R160), and the statements O22 and O6. -/

namespace Sys2Proof.Machine

/-! ### The mapper -/

theorem clamp_eq_max_min {lo hi : Int} (h : lo ≤ hi) (v : Int) : clamp lo hi v = max lo (min hi v) := by
  unfold clamp
  split_ifs <;> omega

theorem intensity_eq (c : Config) (y : Int) : intensity c y = max 0 (min 255 (255 - (c.wind : Int) + y / (c.mapDiv : Int))) := by
  rw [intensity, clamp_eq_max_min (by decide), fdiv_eq_ediv]

/-- Floor division does not decrease. By 0, which no valid configuration has as `MAP_DIV`, it is constant. -/
theorem fdiv_mono {y y' : Int} (h : y ≤ y') (d : Nat) : fdiv y d ≤ fdiv y' d := by
  rw [fdiv_eq_ediv, fdiv_eq_ediv]
  rcases d.eq_zero_or_pos with rfl | hd
  · rw [Nat.cast_zero, Int.ediv_zero, Int.ediv_zero]
  · exact Int.ediv_le_ediv (Int.natCast_pos.2 hd) h

theorem intensity_mono (c : Config) {y y' : Int} (h : y ≤ y') : intensity c y ≤ intensity c y' := by
  rw [intensity, intensity, clamp_eq_max_min (by decide), clamp_eq_max_min (by decide)]
  gcongr
  exact fdiv_mono h c.mapDiv

/-! ### The command -/

theorem exec_map {s : State} (hm : s.mode = .test) :
    exec .map s = .next (s.setRes (zext32 (intensity s.cfg (mapOperand s.arg)).toNat)) := inTest_test hm _

/-! ### The statements -/

/-- Settles O22: the clamp gives the bounds; floor division and clamp both keep the order. -/
theorem mapperIsBoundedAndMonotone : Obligations.MapperIsBoundedAndMonotone := by
  intro c y y'
  have hlo : 0 ≤ intensity c y := intensity_eq c y ▸ le_max_left _ _
  have hhi : intensity c y ≤ 255 := intensity_eq c y ▸ max_le (by decide) (min_le_left _ _)
  exact ⟨hlo, hhi, intensity_mono c⟩

/-- Settles O6: RES gets the mapper's result on MAP's operand. -/
theorem mapCommandClampsIntoRes : Obligations.MapCommandClampsIntoRes := by
  intro s hm
  refine ⟨?_, cmdWrite_encode (i := .map) hm rfl⟩
  rw [exec_map hm, intensity_eq]
  rfl

/-! ### Runs that meet the hypotheses -/

/-- O22 across 0, where a division towards 0 would not fall below the baseline 171. -/
theorem witness_intensity_rises_to_baseline :
    intensity Config.default (-1) = 170 ∧ intensity Config.default 0 = 171 ∧
    intensity Config.default (-1) ≤ intensity Config.default 0 := by
  obtain ⟨-, -, hmono⟩ := mapperIsBoundedAndMonotone Config.default (-1) 0
  exact ⟨by decide, by decide, hmono (by decide)⟩

/-- O6 at a result below 0, with an upper half of ARG that is not the sign of the lower. -/
theorem witness_map_clamps_below :
    exec .map { State.reset with mode := .test, arg := 0x12348000 } =
      .next { State.reset with mode := .test, arg := 0x12348000, res := 0 } := by
  obtain ⟨hmap, -⟩ := mapCommandClampsIntoRes { State.reset with mode := .test, arg := 0x12348000 } rfl
  exact hmap

end Sys2Proof.Machine
end

section
/-! SUPPORT. What a step does to the scheduler's registers, once: the phase, the tick flag and the counter (`44_scheduler.md` R170 to R176),
and the statements O33 to O37. -/

namespace Sys2Proof.Machine

/-! ### The overflow step -/

theorem overflowStep_of_run {s : State} (hm : s.mode = .run) (hb : s.phase ≠ .boot) : overflowStep s = ovfApply s := if_pos ⟨hm, hb⟩

theorem ovfApply_withAgenda (s : State) (es : List Event) : ovfApply (s.withAgenda es) = (ovfApply s).withAgenda es := by
  have hmode : (ovfApply s).mode = s.mode := congrArg Control.mode (ovfApply_control s)
  calc ovfApply (s.withAgenda es) = { ovfApply s with mode := s.mode, agenda := es } := ovfApply_mode_agenda s s.mode es
    _ = (ovfApply s).withAgenda es := by rw [← hmode]; rfl

/-- The overflow step does not read what is still to come. -/
theorem overflowStep_withAgenda (s : State) (es : List Event) :
    overflowStep (s.withAgenda es) = (overflowStep s).withAgenda es := by
  rcases overflowStep_cases s with ⟨hm, hb, h⟩ | ⟨hoff, h⟩ <;> rw [h]
  · rw [overflowStep_of_run (s := s.withAgenda es) hm hb, ovfApply_withAgenda]
  · rcases overflowStep_cases (s.withAgenda es) with ⟨hm, hb, -⟩ | ⟨-, h'⟩
    · rcases hoff with hoff | hoff
      · exact nomatch hoff.symm.trans hm
      · exact absurd hoff hb
    · exact h'

/-- An overflow step is an expiry where the timer runs and the counter is 1 (R170). -/
theorem isExpiry_of_ovf {s : State} {rest : List Event} (ha : s.agenda = .ovf :: rest) :
    s.isExpiry = decide (s.mode = .run ∧ s.phase ≠ .boot ∧ s.cnt = 1) := by
  simp [State.isExpiry, ha, Bool.and_assoc]

theorem isExpiry_of_cons {s : State} {e : Event} {rest : List Event} (ha : s.agenda = e :: rest) (he : e ≠ .ovf) :
    s.isExpiry = false := by
  simp [State.isExpiry, ha, he]

theorem isExpiry_of_seqTurn {s : State} (h : s.isSeqTurn = true) : s.isExpiry = false := by
  cases ha : s.agenda with
  | nil => simp [State.isExpiry, ha]
  | cons e rest =>
    refine isExpiry_of_cons ha ?_
    rintro rfl
    simp [State.isSeqTurn, ha] at h

/-- An overflow event reaches the counter and the tick flag alone, and sets the flag exactly by an expiry. -/
theorem overflowStep_eq {s : State} {rest : List Event} (ha : s.agenda = .ovf :: rest) :
    overflowStep s = { s with cnt := (overflowStep s).cnt, tick := s.tick || s.isExpiry } := by
  rw [isExpiry_of_ovf ha]
  rcases overflowStep_cases s with ⟨hm, hb, h⟩ | ⟨hoff, h⟩ <;> rw [h]
  · rcases ovfApply_cases s with ⟨hc, h⟩ | ⟨hc, h⟩ <;> rw [h]
    · rw [decide_eq_true ⟨hm, hb, hc⟩, Bool.or_true]
    · rw [decide_eq_false (by simp only [hc, and_false, not_false_eq_true]), Bool.or_false]
  · rw [decide_eq_false, Bool.or_false]
    rintro ⟨hm, hb, -⟩
    rcases hoff with hoff | hoff
    · exact nomatch hoff.symm.trans hm
    · exact hb hoff

/-! ### SEQ's turn -/

theorem seqTurn_of_pending {s : State} (hm : s.mode = .run) (hp : s.phase = .idle) (ht : s.tick = true) :
    seqTurn s = observeAndClear s := (seqTurn_of_idle hp).trans (if_pos ⟨hm, ht⟩)

/-- The low-power wait (R174). -/
theorem seqTurn_of_wait {s : State} (hp : s.phase = .idle) (ht : s.tick = false) : seqTurn s = s :=
  (seqTurn_of_idle hp).trans (if_neg (by simp [ht]))

theorem seqTurn_of_due {s : State} (hm : s.mode = .run) (hp : s.phase = .updating) : seqTurn s = updateCycle s :=
  (seqTurn_of_updating hp).trans (if_pos hm)

/-- In TEST mode SEQ has no step after the boot step (R175). -/
theorem seqTurn_of_test {s : State} (hm : s.mode = .test) (hb : s.phase ≠ .boot) : seqTurn s = s := by
  rcases seqTurn_cases s with ⟨hp, -⟩ | ⟨-, hr, -⟩ | ⟨-, hr, -⟩ | ⟨-, -, h⟩
  · exact absurd hp hb
  · exact nomatch hm.symm.trans hr
  · exact nomatch hm.symm.trans hr
  · exact h

/-! ### HOST's accesses never move the phase -/

theorem inTest_phase {s e t : State} (he : e.phase = s.phase) (h : s.inTest e = .next t) : t.phase = s.phase := by
  rcases inTest_cases h with ⟨-, rfl⟩ | ⟨-, rfl⟩
  · exact he
  · rfl

/-- UPDATE, OVF and TAKE do not move the phase either (`45_command_port.md` R198 to R200). -/
theorem exec_phase {i : Instr} {s t : State} (h : exec i s = .next t) : t.phase = s.phase := by
  cases i with
  | nop | step | normal | filter _ | map | update | take =>
    refine inTest_phase ?_ h
    rfl
  | draw n =>
    refine inTest_phase ?_ h
    split_ifs <;> rfl
  | ovf =>
    refine inTest_phase ?_ h
    rcases ovfApply_cases s with ⟨-, ht⟩ | ⟨-, ht⟩ <;> rw [ht]

theorem cmdWrite_phase {w : Word} {s t : State} (h : cmdWrite w s = .next t) : t.phase = s.phase := by
  rcases cmdWrite_cases h with ⟨c, -, he⟩ | ⟨i, -, he⟩
  · injection he with he
    exact he ▸ rfl
  · exact exec_phase he.symm

theorem writeReg_phase {o : Nat} {v : Word} {s t : State} (h : writeReg o v s = .next t) : t.phase = s.phase := by
  rcases writeReg_cases h with ⟨-, he⟩ | ⟨-, he⟩ | ⟨-, -, he⟩ | ⟨-, -, he⟩ | ⟨-, -, -, he⟩
  · exact cmdWrite_phase he.symm
  all_goals
    injection he with he
    exact he ▸ rfl

theorem hostWrite_phase {w : Width} {a : Nat} {v : Word} {s t : State} (h : hostWrite w a v s = .next t) : t.phase = s.phase := by
  rcases hostWrite_cases h with ⟨-, -, he⟩ | ⟨-, -, he⟩ | ⟨-, he⟩
  · exact writeReg_phase (s := s.respond .written) he.symm
  all_goals
    injection he with he
    exact he ▸ rfl

/-! ### In RUN mode a bus access changes nothing of the pipeline (`45_command_port.md` R191) -/

theorem tick_of_pipeline {s t : State} (h : t.pipeline = s.pipeline) : t.tick = s.tick := (congrArg State.tick h :)

/-- A read changes HOST's response and nothing else. -/
theorem hostRead_eq_respond {w : Width} {a : Nat} {s t : State} (h : hostRead w a s = .next t) : ∃ r, t = s.respond r := by
  rcases hostRead_cases h with ⟨-, -, he⟩ | ⟨-, -, he⟩ | ⟨-, he⟩ <;> injection he with he <;> exact ⟨_, he⟩

theorem cmdWrite_of_run {s : State} (hm : s.mode = .run) (w : Word) : cmdWrite w s = .next (s.raiseIllegal .cmdInRun) :=
  cmdWrite_of_illegal (hm ▸ decode_run w)

theorem writeReg_keeps_pipeline {o : Nat} {v : Word} {s t : State} (hm : s.mode = .run) (h : writeReg o v s = .next t) :
    t.pipeline = s.pipeline ∧ t.agenda = s.agenda := by
  rcases writeReg_cases h with ⟨-, he⟩ | ⟨-, he⟩ | ⟨-, -, he⟩ | ⟨-, -, he⟩ | ⟨-, -, -, he⟩
  · rw [cmdWrite_of_run hm] at he
    injection he with he
    exact he ▸ ⟨rfl, rfl⟩
  all_goals
    injection he with he
    exact he ▸ ⟨rfl, rfl⟩

theorem hostWrite_keeps_pipeline {w : Width} {a : Nat} {v : Word} {s t : State} (hm : s.mode = .run) (h : hostWrite w a v s = .next t) :
    t.pipeline = s.pipeline ∧ t.agenda = s.agenda := by
  rcases hostWrite_cases h with ⟨-, -, he⟩ | ⟨-, -, he⟩ | ⟨-, he⟩
  · exact writeReg_keeps_pipeline (s := s.respond .written) hm he.symm
  all_goals
    injection he with he
    exact he ▸ ⟨rfl, rfl⟩

/-- After the boot step of a RUN-mode machine, a bus access answers, and changes nothing of the pipeline. -/
theorem step_of_access_keeps_pipeline {s : State} {e : Event} {rest : List Event} (hc : configValid s.cfg = true) (hm : s.mode = .run)
    (hb : s.phase ≠ .boot) (ha : s.agenda = e :: rest) (he : e.isAccess = true) :
    ∃ t, step s = .next t ∧ t.pipeline = s.pipeline ∧ t.agenda = rest := by
  cases e with
  | read w a =>
    obtain ⟨t, ht⟩ := hostRead_answers w a (s.withAgenda rest)
    obtain ⟨r, rfl⟩ := hostRead_eq_respond ht
    exact ⟨_, (step_of_read hc hb ha).trans ht, rfl, rfl⟩
  | write w a v =>
    obtain ⟨t, ht⟩ := hostWrite_answers w a v (s.withAgenda rest)
    exact ⟨t, (step_of_write hc hb ha).trans ht, hostWrite_keeps_pipeline (s := s.withAgenda rest) hm ht⟩
  | seq | ovf | storeRead | storeWrite | reset | powerCycle => nomatch he

/-! ### The step -/

/-- Everything a step can do to the phase and the tick flag, by whose step it is. -/
theorem step_scheduler {s t : State} (h : step s = .next t) :
    (s.isSeqTurn = true ∧ ∃ es, t = (seqTurn s).withAgenda es) ∨
    ∃ e rest, s.agenda = e :: rest ∧
      ((e = .ovf ∧ t = (overflowStep s).withAgenda rest) ∨
       (e.resets = true ∧ t.tick = false ∧ t.phase = .boot) ∨
       (e.waitsForBoot = true ∧ s.phase = .boot ∧ t = bootStep s) ∨
       (e.waitsForBoot = true ∧ s.phase ≠ .boot ∧ t.phase = s.phase ∧ (s.mode = .run → t.tick = s.tick))) := by
  obtain ⟨-, ⟨ha, rfl⟩ | ⟨e, rest, ha, hevent⟩⟩ := step_cases h
  · exact .inl ⟨by simp [State.isSeqTurn, ha], (seqTurn s).agenda, rfl⟩
  · rcases hevent with ⟨rfl, rfl⟩ | ⟨rfl, rfl⟩ | ⟨test, rfl, rfl⟩ | ⟨test, torn, rfl, rfl⟩ | ⟨hp, hwait, rfl⟩ | ⟨hb, haccess⟩
    · exact .inl ⟨by simp [State.isSeqTurn, ha], rest, seqTurn_withAgenda s rest⟩
    · exact .inr ⟨_, rest, ha, .inl ⟨rfl, overflowStep_withAgenda s rest⟩⟩
    · exact .inr ⟨_, rest, ha, .inr (.inl ⟨rfl, rfl, rfl⟩)⟩
    · exact .inr ⟨_, rest, ha, .inr (.inl ⟨rfl, rfl, rfl⟩)⟩
    · exact .inr ⟨e, rest, ha, .inr (.inr (.inl ⟨hwait, hp, rfl⟩))⟩
    · refine .inr ⟨e, rest, ha, .inr (.inr (.inr ?_))⟩
      rcases haccess with ⟨w, a, rfl, ht⟩ | ⟨w, a, v, rfl, ht⟩ | ⟨a, rfl, ht⟩ | ⟨a, v, rfl, ht⟩
      · obtain ⟨r, rfl⟩ := hostRead_eq_respond ht
        exact ⟨rfl, hb, rfl, fun _ => rfl⟩
      · exact ⟨rfl, hb, hostWrite_phase (s := s.withAgenda rest) ht,
          fun hm => tick_of_pipeline (hostWrite_keeps_pipeline (s := s.withAgenda rest) hm ht).1⟩
      · rcases hostStoreRead_cases ht with ⟨-, he⟩ | ⟨-, he⟩
        · injection he with he
          exact he ▸ ⟨rfl, hb, rfl, fun _ => rfl⟩
        · nomatch he
      · rcases hostStoreWrite_cases ht with ⟨-, he⟩ | ⟨-, he⟩
        · injection he with he
          exact he ▸ ⟨rfl, hb, rfl, fun _ => rfl⟩
        · nomatch he

theorem ne_ovf_of_waitsForBoot {e : Event} (h : e.waitsForBoot = true) : e ≠ .ovf := by
  rintro rfl
  nomatch h

theorem ne_seq_of_waitsForBoot {e : Event} (h : e.waitsForBoot = true) : e ≠ .seq := by
  rintro rfl
  nomatch h

/-- A turn on the agenda is SEQ's turn, and the rest of the agenda is left. -/
theorem step_of_seq {s : State} {rest : List Event} (hc : configValid s.cfg = true) (ha : s.agenda = .seq :: rest) :
    step s = .next ((seqTurn s).withAgenda rest) := by
  rw [step_of_cons hc ha, eventStep, seqTurn_withAgenda]

theorem step_of_ovf {s : State} {rest : List Event} (hc : configValid s.cfg = true) (ha : s.agenda = .ovf :: rest) :
    step s = .next ((overflowStep s).withAgenda rest) := by
  rw [step_of_cons hc ha, eventStep, overflowStep_withAgenda]

/-! ### The statements -/

/-- Settles O33: where the timer runs, the step is an expiry or a decrement. -/
theorem overflowStepCountsDown : Obligations.OverflowStepCountsDown := by
  intro s rest hc ha _
  rw [step_of_ovf hc ha]
  refine ⟨fun ⟨hm, hb⟩ => ?_, fun hoff => ?_⟩
  · rw [overflowStep_of_run hm hb]
    rcases ovfApply_cases s with ⟨hcnt, h⟩ | ⟨hcnt, h⟩ <;> rw [h]
    · rw [if_pos hcnt]
      rfl
    · rw [if_neg hcnt]
      rfl
  · rcases overflowStep_cases s with ⟨hm, hb, -⟩ | ⟨-, h⟩
    · rcases hoff with hoff | hoff
      · exact nomatch hoff.symm.trans hm
      · exact absurd hoff hb
    · rw [h]
      rfl

/-- Settles O34: SEQ's turn is the observe-and-clear, whole. -/
theorem observeAndClearIsOneStep : Obligations.ObserveAndClearIsOneStep := by
  intro s rest hc ha hm hp ht
  rw [step_of_seq hc ha, seqTurn_of_pending hm hp ht]
  rfl

/-- Settles O35: SEQ's turn is the update cycle, whole. -/
theorem updateCycleIsOneStep : Obligations.UpdateCycleIsOneStep := by
  intro s rest hc ha hm hp
  rw [step_of_seq hc ha, seqTurn_of_due hm hp]
  rfl

/-- Settles O36: the wait is SEQ's turn to the same state, and of all steps but a reset only an overflow step can set the tick. -/
theorem sequencerWaitsForATick : Obligations.SequencerWaitsForATick := by
  intro s hc hm hp ht
  have hwait : seqTurn s = s := seqTurn_of_wait hp ht
  refine ⟨fun ha => by rw [step_of_nil hc ha, hwait], fun rest ha => ?_, fun t hstep hno => ?_⟩
  · rw [step_of_seq hc ha, hwait]
    rfl
  · rcases step_scheduler hstep with ⟨hseq, es, rfl⟩ | ⟨e, rest, ha, hevent⟩
    · rw [hwait, isExpiry_of_seqTurn hseq]
      exact ⟨hp, by simp [ht]⟩
    · rcases hevent with ⟨rfl, rfl⟩ | ⟨hreset, -⟩ | ⟨-, hb, -⟩ | ⟨hacc, -, hphase, htick⟩
      · rw [overflowStep_eq ha]
        exact ⟨hp, by simp [ht]⟩
      · exact nomatch hreset.symm.trans ((noReset_of_cons ha).1 hno)
      · exact nomatch hp.symm.trans hb
      · rw [isExpiry_of_cons ha (ne_ovf_of_waitsForBoot hacc), htick hm, ht]
        exact ⟨hphase.trans hp, Iff.rfl⟩

/-- Settles O37: neither agent has a step, and no access moves the phase. -/
theorem testModeStopsSchedulerAndTimer : Obligations.TestModeStopsSchedulerAndTimer := by
  intro s hc hm hp
  have hb : s.phase ≠ .boot := by rw [hp]; decide
  have hseq : seqTurn s = s := seqTurn_of_test hm hb
  have hovf : overflowStep s = s := if_neg (by simp [hm])
  refine ⟨fun ha => by rw [step_of_nil hc ha, hseq], fun rest ha => ?_, fun t hstep hno => ?_⟩
  · rcases ha with ha | ha
    · rw [step_of_seq hc ha, hseq]
      rfl
    · rw [step_of_ovf hc ha, hovf]
      rfl
  · obtain ⟨-, hmode, -⟩ := modeChangesOnlyAtReset s t hstep
    refine ⟨?_, (hmode hno).trans hm⟩
    rcases step_scheduler hstep with ⟨-, es, rfl⟩ | ⟨e, rest, ha, hevent⟩
    · rw [hseq]
      exact hp
    · rcases hevent with ⟨rfl, rfl⟩ | ⟨hreset, -⟩ | ⟨-, hboot, -⟩ | ⟨-, -, hphase, -⟩
      · rw [hovf]
        exact hp
      · exact nomatch hreset.symm.trans ((noReset_of_cons ha).1 hno)
      · exact absurd hboot hb
      · exact hphase.trans hp

/-! ### Runs that meet the hypotheses -/

/-- O33 at an expiry with the default RELOAD of 16. -/
theorem witness_expiry_reloads :
    step { State.reset with phase := .idle, cnt := 1, agenda := [.ovf] } =
      .next { State.reset with phase := .idle, cnt := 16, tick := true, agenda := [] } := by
  obtain ⟨hrun, -⟩ := overflowStepCountsDown { State.reset with phase := .idle, cnt := 1, agenda := [.ovf] } []
    configValid_default rfl (by decide)
  exact hrun ⟨rfl, by decide⟩

/-- O34 with a second turn still to come. -/
theorem witness_pending_tick_observed :
    step { State.reset with phase := .idle, tick := true, agenda := [.seq, .seq] } =
      .next { State.reset with phase := .updating, tick := false, agenda := [.seq] } :=
  observeAndClearIsOneStep { State.reset with phase := .idle, tick := true, agenda := [.seq, .seq] } [.seq]
    configValid_default rfl rfl rfl rfl

/-- O35 with a new tick pending, which the cycle leaves for the next one. -/
theorem witness_update_cycle_keeps_tick :
    ∃ t, step { State.reset with phase := .updating, tick := true, agenda := [.seq] } = .next t ∧ t.tick = true ∧ t.phase = .idle ∧
      t.port = [t.duty] :=
  ⟨_, updateCycleIsOneStep { State.reset with phase := .updating, tick := true, agenda := [.seq] } [] configValid_default rfl rfl rfl,
    rfl, rfl, rfl⟩

/-- O36 where the wait ends. -/
theorem witness_expiry_ends_wait :
    ∃ t, step { State.reset with phase := .idle, cnt := 1, agenda := [.ovf] } = .next t ∧ t.phase = .idle ∧ t.tick = true := by
  obtain ⟨-, -, hends⟩ := sequencerWaitsForATick { State.reset with phase := .idle, cnt := 1, agenda := [.ovf] }
    configValid_default rfl rfl rfl
  obtain ⟨hphase, htick⟩ := hends _ rfl (by decide)
  exact ⟨_, rfl, hphase, htick.2 (by decide)⟩

/-- O37 at HOST's write of UPDATE's word: the command runs, and the phase stays. -/
theorem witness_test_update_stays_idle :
    ∃ t, step { State.reset with phase := .idle, mode := .test, agenda := [.write .b4 0 0x00006000] } = .next t ∧
      t.phase = .idle ∧ t.mode = .test := by
  obtain ⟨-, -, hstays⟩ :=
    testModeStopsSchedulerAndTimer { State.reset with phase := .idle, mode := .test, agenda := [.write .b4 0 0x00006000] }
      configValid_default rfl rfl
  exact ⟨_, rfl, hstays _ rfl (by decide)⟩

end Sys2Proof.Machine
end

section
/-! SUPPORT. The update cycle as a composition of three commands (`44_scheduler.md` R173, `45_command_port.md` R195 to R198), and the
statement O8. -/

namespace Sys2Proof.Machine

/-! ### What one command leaves in RES is the next one's operand (`30_encoding.md` R82, R83) -/

/-- The low bits of a sign-extended value are the value. -/
theorem extractLsb'_signExtend {n m : Nat} (h : n ≤ m) (x : BitVec n) : (x.signExtend m).extractLsb' 0 n = x := by
  ext i hi
  have him : i < m := by omega
  simp [hi, him, BitVec.getElem_signExtend]

/-- A shaper sample in RES is FILTER's operand again. -/
theorem filterOperand_sext32_wrap (v : Int) : filterOperand ((sext32 (wrap 8 v)).extractLsb' 0 8) = wrap 8 v := by
  rw [wrap_eq_toInt_ofInt (by decide)]
  exact congrArg BitVec.toInt (extractLsb'_signExtend (by decide) (BitVec.ofInt 8 v))

/-- A filter output in RES is MAP's operand again. -/
theorem mapOperand_sext32_wrap (v : Int) : mapOperand (sext32 (wrap 16 v)) = wrap 16 v := by
  rw [sext32_wrap_16, mapOperand_signExtend, wrap_eq_toInt_ofInt (by decide)]

theorem intensity_range (c : Config) (y : Int) : 0 ≤ intensity c y ∧ intensity c y ≤ 255 := by
  obtain ⟨hlo, hhi, -⟩ := mapperIsBoundedAndMonotone c y y
  exact ⟨hlo, hhi⟩

/-- The intensity fits the port's `u8` (R162). -/
theorem dutyOf_toNat (c : Config) (y : Int) : (dutyOf c y).toNat = (intensity c y).toNat := by
  obtain ⟨hlo, hhi⟩ := intensity_range c y
  rw [dutyOf, BitVec.toNat_ofInt]
  omega

/-- An intensity in RES has the duty in its low byte. -/
theorem extractLsb'_zext32_intensity (c : Config) (y : Int) : (zext32 (intensity c y).toNat).extractLsb' 0 8 = dutyOf c y := by
  apply BitVec.eq_of_toNat_eq
  rw [dutyOf_toNat, BitVec.extractLsb'_toNat, zext32, BitVec.toNat_ofNat]
  obtain ⟨hlo, hhi⟩ := intensity_range c y
  omega

/-! ### The statement -/

theorem exec_update {s : State} (hm : s.mode = .test) :
    exec .update s = .next ((updateApply s).1.setRes (zext32 (updateApply s).2.toNat)) := inTest_test hm _

/-- Settles O8: each command leaves in RES the value that the update cycle passes on to its next component. -/
theorem updateIsNormalThenFilterThenMap : Obligations.UpdateIsNormalThenFilterThenMap := by
  intro s s1 s2 s3 hm h1 h2 h3
  let x := (normal s.lfsr).2
  let f := filter s.cfg.filter s.delays x
  have e1 : s1 = (s.setLfsr (normal s.lfsr).1).setRes (sext32 x) := effect_of_inTest hm h1
  have hm1 : s1.mode = .test := by rw [e1]; exact hm
  have hx : filterOperand (s1.res.extractLsb' 0 8) = x := by
    rw [e1]
    exact filterOperand_sext32_wrap _
  have e2 : s2 = (s1.setDelays f.1).setRes (sext32 f.2) := by
    rw [effect_of_inTest hm1 h2, hx, e1]
    rfl
  have hm2 : s2.mode = .test := by rw [e2]; exact hm1
  have hy : mapOperand s2.res = f.2 := by
    rw [e2]
    exact mapOperand_sext32_wrap _
  have e3 : s3 = { s2 with arg := s2.res, res := zext32 (intensity s.cfg f.2).toNat } := by
    rw [effect_of_inTest (s := s2.setArg s2.res) hm2 h3, ← hy, e2, e1]
    rfl
  have hduty : s3.res.extractLsb' 0 8 = dutyOf s.cfg f.2 := by
    rw [e3]
    exact extractLsb'_zext32_intensity s.cfg f.2
  calc exec .update s = .next ((updateApply s).1.setRes (zext32 (dutyOf s.cfg f.2).toNat)) := exec_update hm
    _ = _ := by
      rw [hduty, dutyOf_toNat, e3, e2, e1]
      rfl

/-- O8 from the LFSR state 2 (`95_test_vectors.md` P3): the three commands, and then UPDATE. -/
theorem witness_three_commands_give_the_duty : ∃ s1 s2 s3,
    exec .normal { State.reset with mode := .test, lfsr := 2 } = .next s1 ∧ exec (.filter (s1.res.extractLsb' 0 8)) s1 = .next s2 ∧
    exec .map { s2 with arg := s2.res } = .next s3 ∧
    ∃ t, exec .update { State.reset with mode := .test, lfsr := 2 } = .next t ∧ t.port = [s3.res.extractLsb' 0 8] := by
  obtain ⟨s1, h1⟩ := exec_answers .normal { State.reset with mode := .test, lfsr := 2 }
  obtain ⟨s2, h2⟩ := exec_answers (.filter (s1.res.extractLsb' 0 8)) s1
  obtain ⟨s3, h3⟩ := exec_answers .map { s2 with arg := s2.res }
  exact ⟨s1, s2, s3, h1, h2, h3, _, updateIsNormalThenFilterThenMap _ s1 s2 s3 rfl h1 h2 h3, rfl⟩

end Sys2Proof.Machine
end

section
/-! SUPPORT. Update cycles against expiries: how many updates are due after a step (`44_scheduler.md` R178 (a)), and the statement O40. -/

namespace Sys2Proof.Machine

/-! ### Counts along a run -/

theorem countSteps_succ_toNat {s t : State} (p : State → Bool) (n : Nat) (h : step s = .next t) :
    countSteps p (n + 1) s = (p s).toNat + countSteps p n t := by
  rw [countSteps_succ p n h]
  cases p s <;> rfl

/-- A count over `m + n` steps is a count over `m` and then one over `n`. -/
theorem countSteps_add (p : State → Bool) {m : Nat} {s t : State} (n : Nat) (h : runFor m s = .next t) :
    countSteps p (m + n) s = countSteps p m s + countSteps p n t := by
  induction m generalizing s with
  | zero =>
    injection h with h
    rw [Nat.zero_add, h, countSteps_zero, Nat.zero_add]
  | succ m ih =>
    rw [Nat.add_right_comm]
    cases hs : step s with
    | next u =>
      rw [runFor_succ _ hs] at h
      rw [countSteps_succ p _ hs, countSteps_succ p _ hs, ih h, Nat.add_assoc]
    | fault r => simp [runFor, runWith, hs] at h
    | refused r => simp [runFor, runWith, hs] at h

/-- A run that stops counts no further. -/
theorem countSteps_of_stop (p : State → Bool) (n : Nat) {s : State} (h : ∀ t, step s ≠ .next t) : countSteps p n s = 0 := by
  cases n with
  | zero => rfl
  | succ n =>
    cases hs : step s with
    | next t => exact absurd hs (h t)
    | fault r => simp [countSteps, countWith, hs]
    | refused r => simp [countSteps, countWith, hs]

/-! ### The updates that are due -/

/-- How many update cycles SEQ still owes with no further expiry: one for a pending tick and one for a cycle already begun. In TEST mode
none comes (R175), whatever the flag that OVF and TAKE move. -/
def State.dueUpdates (s : State) : Nat :=
  if s.mode = .run then s.tick.toNat + (decide (s.phase = .updating)).toNat else 0

theorem dueUpdates_of_run {s : State} (hm : s.mode = .run) :
    s.dueUpdates = s.tick.toNat + (decide (s.phase = .updating)).toNat := if_pos hm

theorem dueUpdates_of_test {s : State} (hm : s.mode = .test) : s.dueUpdates = 0 := if_neg (by simp [hm])

theorem dueUpdates_eq_zero {s : State} (ht : s.tick = false) (hp : s.phase ≠ .updating) : s.dueUpdates = 0 := by
  simp [State.dueUpdates, ht, hp]

/-- The boot step takes a tick no further. -/
theorem dueUpdates_bootStep {s : State} (hb : s.phase = .boot) : (bootStep s).dueUpdates = s.dueUpdates := by
  simp [State.dueUpdates, hb]

/-- SEQ's turn moves a due update from the flag to the phase, or performs it. -/
theorem dueUpdates_seqTurn {s : State} (h : s.isSeqTurn = true) : s.isUpdate.toNat + (seqTurn s).dueUpdates = s.dueUpdates := by
  rw [isUpdate_of_seqTurn h]
  rcases seqTurn_cases s with ⟨hp, ht⟩ | ⟨hp, hm, htick, ht⟩ | ⟨hp, hm, ht⟩ | ⟨-, hw, ht⟩ <;> rw [ht]
  · simp [dueUpdates_bootStep hp, hp]
  · simp [State.dueUpdates, observeAndClear, hp, hm, htick]
  · have hcycle : (updateCycle s).dueUpdates = s.tick.toNat := by
      rw [dueUpdates_of_run (s := updateCycle s) hm]
      rfl
    simp [hcycle, dueUpdates_of_run hm, hp, hm, Nat.add_comm]
  · rcases hw with hm | ⟨hp, -⟩
    · simp [hm]
    · simp [hp]

/-- Only an expiry makes one more update due, and it makes none where a tick is pending (R170). -/
theorem dueUpdates_overflowStep {s : State} {rest : List Event} (ha : s.agenda = .ovf :: rest) :
    (overflowStep s).dueUpdates ≤ s.isExpiry.toNat + s.dueUpdates := by
  rw [overflowStep_eq ha]
  simp only [State.dueUpdates]
  split_ifs
  · cases s.tick <;> cases s.isExpiry <;> simp
  · exact Nat.zero_le _

/-- No step makes more updates due, or done, than it has expiries. -/
theorem step_dueUpdates {s t : State} (h : step s = .next t) :
    s.isUpdate.toNat + t.dueUpdates ≤ s.isExpiry.toNat + s.dueUpdates := by
  rcases step_scheduler h with ⟨hseq, es, rfl⟩ | ⟨e, rest, ha, hevent⟩
  · have hturn : s.isUpdate.toNat + (seqTurn s).dueUpdates = s.dueUpdates := dueUpdates_seqTurn hseq
    exact hturn.le.trans (Nat.le_add_left _ _)
  · suffices he : e ≠ .seq ∧ t.dueUpdates ≤ s.isExpiry.toNat + s.dueUpdates by
      rw [isUpdate_of_cons ha he.1, Bool.toNat_false, Nat.zero_add]
      exact he.2
    rcases hevent with ⟨rfl, rfl⟩ | ⟨hreset, htick, hphase⟩ | ⟨hwait, hb, rfl⟩ | ⟨hwait, -, hphase, htick⟩
    · exact ⟨nofun, dueUpdates_overflowStep ha⟩
    · constructor
      · rintro rfl
        nomatch hreset
      · rw [dueUpdates_eq_zero htick (by simp [hphase])]
        exact Nat.zero_le _
    · refine ⟨ne_seq_of_waitsForBoot hwait, ?_⟩
      rw [dueUpdates_bootStep hb]
      exact Nat.le_add_left _ _
    · refine ⟨ne_seq_of_waitsForBoot hwait, ?_⟩
      obtain ⟨-, hmode, -⟩ := modeChangesOnlyAtReset s t h
      replace hmode : t.mode = s.mode := hmode ((noReset_of_cons ha).2 (resets_of_waitsForBoot hwait))
      cases hm : s.mode with
      | run =>
        rw [dueUpdates_of_run hm, dueUpdates_of_run (hmode.trans hm), hphase, htick hm]
        exact Nat.le_add_left _ _
      | test =>
        rw [dueUpdates_of_test (hmode.trans hm)]
        exact Nat.zero_le _

/-- Along a run, the updates never outnumber the expiries and those that were due at its start. -/
theorem countSteps_isUpdate_le (n : Nat) (s : State) :
    countSteps State.isUpdate n s ≤ countSteps State.isExpiry n s + s.dueUpdates := by
  induction n generalizing s with
  | zero => exact Nat.zero_le _
  | succ n ih =>
    by_cases hs : ∃ t, step s = .next t
    · obtain ⟨t, hs⟩ := hs
      have hstep : s.isUpdate.toNat + t.dueUpdates ≤ s.isExpiry.toNat + s.dueUpdates := step_dueUpdates hs
      have hrest := ih t
      rw [countSteps_succ_toNat _ n hs, countSteps_succ_toNat _ n hs]
      omega
    · rw [countSteps_of_stop _ _ fun t ht => hs ⟨t, ht⟩]
      exact Nat.zero_le _

/-- Settles O40: at the start of the run no update is due. -/
theorem updatesNeverOutnumberExpiries : Obligations.UpdatesNeverOutnumberExpiries := by
  intro n s ht hp
  have hcount := countSteps_isUpdate_le n s
  rwa [dueUpdates_eq_zero ht hp] at hcount

/-- O40 over one whole update, from an expiry to the end of the cycle: the count's bound is met with equality. -/
theorem witness_one_expiry_one_update :
    countSteps State.isUpdate 3 { State.reset with phase := .idle, cnt := 1, agenda := [.ovf] } = 1 ∧
    countSteps State.isUpdate 3 { State.reset with phase := .idle, cnt := 1, agenda := [.ovf] } ≤
      countSteps State.isExpiry 3 { State.reset with phase := .idle, cnt := 1, agenda := [.ovf] } :=
  ⟨rfl, updatesNeverOutnumberExpiries 3 _ rfl (by decide)⟩

end Sys2Proof.Machine
end

section
/-! SUPPORT. The timer's cadence: the counter and the expiries along a RUN-mode run (`44_scheduler.md` R170, R177), and the statement O39. -/

namespace Sys2Proof.Machine

/-! ### A counter that counts down in a circle -/

/-- A place in the circle of `R` is the last one exactly where the countdown is at 1. -/
theorem succ_mod_eq_zero_iff {R : Nat} (hR : 1 ≤ R) (j : Nat) : (j + 1) % R = 0 ↔ R - j % R = 1 := by
  have hlt : j % R < R := Nat.mod_lt j hR
  obtain ⟨r, rfl⟩ : ∃ r, R = r + 1 := ⟨R - 1, by omega⟩
  rw [Nat.succ_mod_succ_eq_zero_iff]
  omega

/-- Before the last place, the countdown goes down by one. -/
theorem sub_succ_mod {R : Nat} (hR : 1 ≤ R) {j : Nat} (hj : (j + 1) % R ≠ 0) : R - (j + 1) % R = R - j % R - 1 := by
  have hlt : j % R < R := Nat.mod_lt j hR
  have hnext : j % R + 1 < R := by
    have := (succ_mod_eq_zero_iff hR j).not.1 hj
    omega
  rw [← Nat.mod_add_mod, Nat.mod_eq_of_lt hnext]
  omega

/-! ### A running timer -/

/-- The timer runs, and its counter is where `j` overflow steps bring one that held RELOAD (R177). -/
structure State.Counts (s : State) (j : Nat) : Prop where
  config : configValid s.cfg = true
  mode : s.mode = .run
  booted : s.phase ≠ .boot
  cnt : s.cnt.toNat = s.cfg.reload - j % s.cfg.reload

theorem State.Counts.reload_pos {s : State} {j : Nat} (h : s.Counts j) : 1 ≤ s.cfg.reload := (configValid_bounds h.config).1.1

/-- What leaves the counter alone leaves its place alone. -/
theorem State.Counts.of_cnt_eq {s t : State} {j : Nat} (h : s.Counts j) (hcfg : t.cfg = s.cfg) (hmode : t.mode = s.mode)
    (hbooted : t.phase ≠ .boot) (hcnt : t.cnt = s.cnt) : t.Counts j where
  config := hcfg ▸ h.config
  mode := hmode.trans h.mode
  booted := hbooted
  cnt := by rw [hcnt, hcfg, h.cnt]

/-- The next overflow step is an expiry exactly if its number is a multiple of RELOAD. -/
theorem State.Counts.isExpiry_iff {s : State} {j : Nat} (h : s.Counts j) (ha : s.agenda.head? = some .ovf) :
    s.isExpiry = true ↔ (j + 1) % s.cfg.reload = 0 := by
  obtain ⟨rest, ha⟩ : ∃ rest, s.agenda = .ovf :: rest := List.head?_eq_some_iff.1 ha
  have hone : s.cnt = 1 ↔ s.cnt.toNat = 1 := BitVec.toNat_inj.symm
  rw [isExpiry_of_ovf ha, decide_eq_true_iff, hone, h.cnt, succ_mod_eq_zero_iff h.reload_pos]
  exact ⟨fun he => he.2.2, fun he => ⟨h.mode, h.booted, he⟩⟩

/-- The overflow step moves the counter to the next place. -/
theorem State.Counts.overflowStep {s : State} {j : Nat} (h : s.Counts j) : (overflowStep s).Counts (j + 1) := by
  have hpos : 1 ≤ s.cfg.reload := h.reload_pos
  rw [overflowStep_of_run h.mode h.booted]
  rcases ovfApply_cases s with ⟨hc, ht⟩ | ⟨hc, ht⟩ <;> rw [ht]
  · refine ⟨h.config, h.mode, h.booted, ?_⟩
    have hlast : (j + 1) % s.cfg.reload = 0 := by
      rw [succ_mod_eq_zero_iff hpos, ← h.cnt, hc]
      rfl
    change (BitVec.ofNat 16 s.cfg.reload).toNat = s.cfg.reload - (j + 1) % s.cfg.reload
    rw [reload_toNat h.config, hlast, Nat.sub_zero]
  · refine ⟨h.config, h.mode, h.booted, ?_⟩
    have hne : s.cnt.toNat ≠ 1 := fun h1 => hc (BitVec.eq_of_toNat_eq h1)
    have hnot : (j + 1) % s.cfg.reload ≠ 0 := by rwa [Ne, succ_mod_eq_zero_iff hpos, ← h.cnt]
    have hcnt := h.cnt
    have hlt : j % s.cfg.reload < s.cfg.reload := Nat.mod_lt j hpos
    change (s.cnt - 1).toNat = s.cfg.reload - (j + 1) % s.cfg.reload
    rw [sub_succ_mod hpos hnot, ← hcnt]
    bv_omega

/-- SEQ's turn does not touch the counter (R173, R176). -/
theorem seqTurn_cnt (s : State) : (seqTurn s).cnt = s.cnt := by
  rcases seqTurn_cases s with ⟨-, h⟩ | ⟨-, -, -, h⟩ | ⟨-, -, h⟩ | ⟨-, -, h⟩ <;> rw [h]
  · exact bootStep_cnt s
  · rfl
  · rfl

/-- SEQ never goes back to phase BOOT. -/
theorem seqTurn_phase_ne_boot (s : State) : (seqTurn s).phase ≠ .boot := by
  rcases seqTurn_cases s with ⟨-, h⟩ | ⟨-, -, -, h⟩ | ⟨-, -, h⟩ | ⟨hb, -, h⟩ <;> rw [h]
  · exact nofun
  · exact nofun
  · exact nofun
  · exact hb

theorem seqTurn_mode (s : State) : (seqTurn s).mode = s.mode := by
  rcases seqTurn_control s with h | ⟨-, -, d, h⟩ <;> exact congrArg Control.mode h

theorem State.Counts.seqTurn {s : State} {j : Nat} (h : s.Counts j) : (seqTurn s).Counts j :=
  h.of_cnt_eq (seqTurn_cfg s) (seqTurn_mode s) (seqTurn_phase_ne_boot s) (seqTurn_cnt s)

theorem State.Counts.withAgenda {s : State} {j : Nat} (h : s.Counts j) (es : List Event) : (s.withAgenda es).Counts j :=
  h.of_cnt_eq rfl rfl h.booted rfl

theorem State.Counts.of_pipeline_eq {s t : State} {j : Nat} (h : s.Counts j) (hk : t.pipeline = s.pipeline) : t.Counts j :=
  h.of_cnt_eq (congrArg State.cfg hk :) (congrArg State.mode hk :) ((congrArg State.phase hk :) ▸ h.booted)
    (congrArg State.cnt hk :)

/-! ### A run of turns, overflow steps and bus accesses -/

/-- A turn and a bus access are no overflow step: neither moves the counter. -/
theorem State.Counts.step_other {s : State} {j : Nat} {e : Event} {rest : List Event} (h : s.Counts j) (ha : s.agenda = e :: rest)
    (he : e = .seq ∨ e.isAccess = true) :
    ∃ t, step s = .next t ∧ t.agenda = rest ∧ t.cfg = s.cfg ∧ t.Counts j := by
  rcases he with rfl | he
  · exact ⟨_, step_of_seq h.config ha, rfl, seqTurn_cfg s, h.seqTurn.withAgenda rest⟩
  · obtain ⟨t, ht, hk, hrest⟩ := step_of_access_keeps_pipeline h.config h.mode h.booted ha he
    exact ⟨t, ht, hrest, (congrArg State.cfg hk :), h.of_pipeline_eq hk⟩

/-- An overflow step counts one expiry where the quotient by RELOAD goes up. -/
theorem State.Counts.expiries_succ {s : State} {j : Nat} (h : s.Counts j) (ha : s.agenda.head? = some .ovf) :
    s.isExpiry.toNat + j / s.cfg.reload = (j + 1) / s.cfg.reload := by
  have hiff : s.isExpiry = true ↔ s.cfg.reload ∣ j + 1 := (h.isExpiry_iff ha).trans (Nat.dvd_iff_mod_eq_zero).symm
  rw [Nat.succ_div, Nat.add_comm]
  congr 1
  cases hx : s.isExpiry with
  | true => rw [if_pos (hiff.1 hx), Bool.toNat_true]
  | false => rw [if_neg (hiff.not.1 (by simp [hx])), Bool.toNat_false]

theorem ovf_or_access_of_passive {e : Event} (h : e.passive = true) : e = .ovf ∨ e.isAccess = true := by
  simpa only [Event.passive, Bool.or_eq_true, decide_eq_true_eq] using h

/-- R177 from any place of the counter: each overflow step of the run moves it on by one. -/
theorem State.Counts.run {s : State} {j : Nat} {es rest : List Event} (h : s.Counts j) (hes : ∀ e ∈ es, e = .seq ∨ e.passive = true)
    (ha : s.agenda = es ++ rest) :
    ∃ t, runFor es.length s = .next t ∧ t.agenda = rest ∧ t.cfg = s.cfg ∧ t.Counts (j + es.count .ovf) ∧
      countSteps State.isExpiry es.length s + j / s.cfg.reload = (j + es.count .ovf) / s.cfg.reload := by
  induction es generalizing s j with
  | nil => exact ⟨s, rfl, ha, rfl, h, Nat.zero_add _⟩
  | cons e es ih =>
    obtain ⟨he, htail⟩ := List.forall_mem_cons.1 hes
    by_cases hovf : e = .ovf
    · subst hovf
      have hstep : step s = .next ((Machine.overflowStep s).withAgenda (es ++ rest)) := step_of_ovf h.config ha
      have hcfg : ((Machine.overflowStep s).withAgenda (es ++ rest)).cfg = s.cfg := by
        rw [overflowStep_eq ha]
        rfl
      obtain ⟨t, hrun, hrest, htcfg, ht, hcount⟩ := ih (h.overflowStep.withAgenda (es ++ rest)) htail rfl
      have hone := h.expiries_succ (by rw [ha]; rfl)
      rw [hcfg] at hcount
      rw [List.count_cons_self, ← Nat.add_assoc, Nat.add_right_comm]
      refine ⟨t, (runFor_succ _ hstep).trans hrun, hrest, htcfg.trans hcfg, ht, ?_⟩
      rw [List.length_cons, countSteps_succ_toNat _ _ hstep]
      omega
    · have hother : e = .seq ∨ e.isAccess = true := he.imp_right fun hp => (ovf_or_access_of_passive hp).resolve_left hovf
      obtain ⟨u, hstep, hurest, hcfg, hu⟩ := h.step_other ha hother
      obtain ⟨t, hrun, hrest, htcfg, ht, hcount⟩ := ih hu htail hurest
      rw [hcfg] at hcount
      rw [List.count_cons_of_ne hovf]
      refine ⟨t, (runFor_succ _ hstep).trans hrun, hrest, htcfg.trans hcfg, ht, ?_⟩
      rw [List.length_cons, countSteps_succ_toNat _ _ hstep, isExpiry_of_cons ha hovf, Bool.toNat_false, Nat.zero_add]
      exact hcount

/-! ### Overflow steps alone -/

/-- They reach the counter and the tick flag, which the first expiry sets; and none is an update cycle. -/
theorem runFor_overflows (n : Nat) {s : State} {rest : List Event} (hc : configValid s.cfg = true)
    (ha : s.agenda = List.replicate n .ovf ++ rest) :
    (∃ c, runFor n s = .next
      { s with agenda := rest, cnt := c, tick := s.tick || decide (0 < countSteps State.isExpiry n s) }) ∧
    countSteps State.isUpdate n s = 0 := by
  induction n generalizing s with
  | zero =>
    refine ⟨⟨s.cnt, ?_⟩, rfl⟩
    have hrest : rest = s.agenda := ha.symm
    simp [hrest]
  | succ n ih =>
    have ha' : s.agenda = .ovf :: (List.replicate n .ovf ++ rest) := ha
    let u := (overflowStep s).withAgenda (List.replicate n .ovf ++ rest)
    have hu : u = { s with agenda := List.replicate n .ovf ++ rest, cnt := u.cnt, tick := s.tick || s.isExpiry } :=
      congrArg (State.withAgenda _) (overflowStep_eq ha')
    have hstep : step s = .next u := step_of_ovf hc ha'
    have hcfg : u.cfg = s.cfg := by rw [hu]
    obtain ⟨⟨c, hrun⟩, hupdates⟩ := ih (s := u) (hcfg ▸ hc) rfl
    refine ⟨⟨c, ?_⟩, ?_⟩
    · have htick : (s.tick || decide (0 < countSteps State.isExpiry (n + 1) s)) =
          (u.tick || decide (0 < countSteps State.isExpiry n u)) := by
        have hutick : u.tick = (s.tick || s.isExpiry) := by rw [hu]
        rw [hutick, countSteps_succ_toNat _ n hstep]
        cases s.isExpiry <;> simp
      rw [runFor_succ n hstep, hrun, htick, hu]
    · rw [countSteps_succ_toNat _ n hstep, hupdates, isUpdate_of_cons ha' nofun]
      rfl

/-! ### The statement -/

/-- A reset in RUN mode and its boot step load the counter (`10_state.md` R34). -/
theorem reboot_counts {s : State} (hc : configValid s.cfg = true) : (reboot false s).Counts 0 where
  config := by rw [reboot_cfg]; exact hc
  mode := (bootStep_mode _).trans (resetBlock_mode s false)
  booted := by rw [reboot, bootStep_phase]; decide
  cnt := by rw [reboot_cfg, reboot, bootStep_cnt, resetBlock_cnt, reload_toNat hc, Nat.zero_mod, Nat.sub_zero]

/-- Settles O39: the run starts from place 0 of the counter. -/
theorem tickCadence : Obligations.TickCadence := by
  intro s hc
  refine ⟨fun es rest hm hb hcnt hes ha => ?_, fun rest ha => ?_, fun hdefault => ?_⟩
  · have h : s.Counts 0 := ⟨hc, hm, hb, by rw [Nat.zero_mod, Nat.sub_zero, hcnt]⟩
    obtain ⟨t, hrun, hrest, hcfg, ht, hcount⟩ := h.run hes ha
    rw [Nat.zero_add] at ht hcount
    rw [Nat.zero_div, Nat.add_zero] at hcount
    refine ⟨t, hrun, hrest, hcfg ▸ ht.cnt, hcount, fun hnext => ?_, fun honly => ?_⟩
    · rw [ht.isExpiry_iff (by rw [hrest]; exact hnext), hcfg]
    · have hall : es = List.replicate es.length .ovf := List.eq_replicate_iff.2 ⟨rfl, honly⟩
      obtain ⟨⟨c, hrun'⟩, -⟩ := runFor_overflows es.length hc (hall ▸ ha)
      injection hrun.symm.trans hrun' with heq
      rw [hcount] at heq
      have hfirst : 0 < es.count .ovf / s.cfg.reload ↔ s.cfg.reload ≤ es.count .ovf := 
        Nat.div_pos_iff.trans (and_iff_right h.reload_pos)
      rw [decide_eq_decide.2 hfirst] at heq
      rw [heq]
  · have hload := reboot_counts hc
    have hcnt : (reboot false s).cnt.toNat = s.cfg.reload := by rw [hload.cnt, reboot_cfg, Nat.zero_mod, Nat.sub_zero]
    refine ⟨(reboot false s).withAgenda rest, runFor_reboot hc ha, ?_⟩
    simp only [State.withAgenda_mode, State.withAgenda_phase, State.withAgenda_cfg, State.withAgenda_cnt, State.withAgenda_agenda]
    exact ⟨hload.mode, bootStep_phase _, reboot_cfg false s, hcnt, trivial⟩
  · calc s.cfg.updateRate * (s.cfg.reload * s.cfg.ovfRate.den) = s.cfg.reload * (s.cfg.ovfRate.den * s.cfg.updateRate) := by ring
      _ ≤ s.cfg.ovfRate.num := by
        rw [hdefault]
        exact Nat.div_mul_le_self _ _

/-- O39 with a turn and a read among the overflow steps: after 15 of them the 16th is an expiry. -/
theorem witness_sixteenth_overflow_expires :
    ∃ t, runFor 17 { State.reset with phase := .idle,
                                      agenda := List.replicate 15 .ovf ++ [.seq, .read .b4 0x1C] ++ [.ovf] } = .next t ∧
      t.cnt.toNat = 1 ∧ t.isExpiry = true := by
  obtain ⟨hcadence, -⟩ := tickCadence
    { State.reset with phase := .idle, agenda := List.replicate 15 .ovf ++ [.seq, .read .b4 0x1C] ++ [.ovf] } configValid_default
  obtain ⟨t, hrun, -, hcnt, -, hexpiry, -⟩ :=
    hcadence (List.replicate 15 .ovf ++ [.seq, .read .b4 0x1C]) [.ovf] rfl (by decide) (by decide) (by decide) rfl
  exact ⟨t, hrun, hcnt, (hexpiry rfl).2 (by decide)⟩

end Sys2Proof.Machine
end

section
/-! SUPPORT. Whole tick periods and SEQ's turns after them: how many updates they give (`44_scheduler.md` R178 (b), (c)), and the
statement O41. -/

namespace Sys2Proof.Machine

/-- Between two tick periods: IDLE in RUN mode with the counter at RELOAD, a tick pending or not, and `es` still to come. -/
structure State.BetweenPeriods (s : State) (pending : Bool) (es : List Event) : Prop where
  counts : s.Counts 0
  idle : s.phase = .idle
  tick : s.tick = pending
  agenda : s.agenda = es

/-- Whole periods with no turn between them leave one tick pending, however many they are, and no update is done (R170). -/
theorem State.BetweenPeriods.overflows {s : State} {pending : Bool} {n : Nat} {rest : List Event}
    (h : s.BetweenPeriods pending (List.replicate n .ovf ++ rest)) (hn : 0 < n) (hdvd : s.cfg.reload ∣ n) :
    ∃ t, runFor n s = .next t ∧ t.BetweenPeriods true rest ∧ t.cfg = s.cfg ∧ countSteps State.isUpdate n s = 0 := by
  have hovf : ∀ e ∈ List.replicate n Event.ovf, e = .seq ∨ e.passive = true := fun e he =>
    .inr (List.eq_of_mem_replicate he ▸ rfl)
  obtain ⟨t, hrun, -, -, hcounts, hexpiries⟩ := h.counts.run hovf h.agenda
  obtain ⟨⟨c, hrun'⟩, hupdates⟩ := runFor_overflows n h.counts.config h.agenda
  rw [List.length_replicate] at hrun hexpiries
  rw [List.count_replicate_self, Nat.zero_add] at hcounts hexpiries
  rw [Nat.zero_div, Nat.add_zero] at hexpiries
  have hexpired : 0 < countSteps State.isExpiry n s := by
    rw [hexpiries]
    exact Nat.div_pos (Nat.le_of_dvd hn hdvd) h.counts.reload_pos
  injection hrun.symm.trans hrun' with ht
  have hcfg : t.cfg = s.cfg := by rw [ht]
  refine ⟨t, hrun, ⟨⟨hcounts.config, hcounts.mode, hcounts.booted, ?_⟩, ?_, ?_, ?_⟩, hcfg, hupdates⟩
  · rw [hcounts.cnt, hcfg, Nat.mod_eq_zero_of_dvd hdvd, Nat.zero_mod]
  · rw [ht]
    exact h.idle
  · rw [ht]
    simp [hexpired]
  · rw [ht]

/-- SEQ's turn there: with a tick pending it begins an update cycle, and without one it waits (R172, R174). Neither is an update. -/
theorem State.BetweenPeriods.isUpdate {s : State} {pending : Bool} {es : List Event} (h : s.BetweenPeriods pending es) :
    s.isUpdate = false := by
  simp [State.isUpdate, h.idle]

/-- Two turns from IDLE: a pending tick is observed and its cycle run, or both are the wait. -/
theorem seqTurn_twice_of_idle {s : State} (hm : s.mode = .run) (hp : s.phase = .idle) :
    (seqTurn (seqTurn s)).phase = .idle ∧ (seqTurn (seqTurn s)).tick = false ∧
    decide ((seqTurn s).mode = .run ∧ (seqTurn s).phase = .updating) = s.tick := by
  cases ht : s.tick with
  | true =>
    have hobserve : seqTurn s = observeAndClear s := seqTurn_of_pending hm hp ht
    have hcycle : seqTurn (observeAndClear s) = updateCycle (observeAndClear s) := seqTurn_of_due hm rfl
    rw [hobserve, hcycle]
    exact ⟨rfl, rfl, decide_eq_true ⟨hm, rfl⟩⟩
  | false =>
    have hwait : seqTurn s = s := seqTurn_of_wait hp ht
    rw [hwait, hwait]
    exact ⟨hp, ht, by simp [hp]⟩

/-- Two turns do the update that is pending, if one is. -/
theorem State.BetweenPeriods.turns {s : State} {pending : Bool} {rest : List Event}
    (h : s.BetweenPeriods pending (List.replicate 2 .seq ++ rest)) :
    ∃ t, runFor 2 s = .next t ∧ t.BetweenPeriods false rest ∧ t.cfg = s.cfg ∧ countSteps State.isUpdate 2 s = pending.toNat := by
  have hc : configValid s.cfg = true := h.counts.config
  have hm : s.mode = .run := h.counts.mode
  have hfirst : step s = .next ((seqTurn s).withAgenda (.seq :: rest)) := step_of_seq hc h.agenda
  have hsecond : step ((seqTurn s).withAgenda (.seq :: rest)) = .next ((seqTurn (seqTurn s)).withAgenda rest) := by
    rw [step_of_seq (s := (seqTurn s).withAgenda (.seq :: rest)) (rest := rest) (seqTurn_cfg s ▸ hc) rfl, seqTurn_withAgenda]
    rfl
  have hrun : runFor 2 s = .next ((seqTurn (seqTurn s)).withAgenda rest) := by
    rw [runFor_succ 1 hfirst, runFor_succ 0 hsecond, runFor_zero]
  have hcounts : ((seqTurn (seqTurn s)).withAgenda rest).Counts 0 := h.counts.seqTurn.seqTurn.withAgenda rest
  have hcfg : ((seqTurn (seqTurn s)).withAgenda rest).cfg = s.cfg := (seqTurn_cfg _).trans (seqTurn_cfg s)
  have hcount : countSteps State.isUpdate 2 s = ((seqTurn s).withAgenda (.seq :: rest)).isUpdate.toNat := by
    rw [countSteps_succ_toNat _ 1 hfirst, countSteps_succ_toNat _ 0 hsecond, h.isUpdate, countSteps_zero, Bool.toNat_false,
      Nat.zero_add, Nat.add_zero]
  obtain ⟨hidle, hclear, hdone⟩ := seqTurn_twice_of_idle hm h.idle
  refine ⟨_, hrun, ⟨hcounts, hidle, hclear, rfl⟩, hcfg, ?_⟩
  rw [hcount, isUpdate_of_seqTurn rfl, ← h.tick, ← hdone]
  rfl

/-- Settles O41: a pending tick is one update, however many expiries merged into it. -/
theorem mergedTicksGiveOneUpdate : Obligations.MergedTicksGiveOneUpdate := by
  intro s rest hc hm hp ht hcnt
  have hstart (es : List Event) (ha : s.agenda = es) : s.BetweenPeriods false es :=
    ⟨⟨hc, hm, by rw [hp]; decide, by rw [Nat.zero_mod, Nat.sub_zero, hcnt]⟩, hp, ht, ha⟩
  have hpos : 1 ≤ s.cfg.reload := (configValid_bounds hc).1.1
  refine ⟨fun ha => ?_, fun ha => ?_⟩
  · obtain ⟨u, hru, hu, -, hcu⟩ := (hstart _ ha).overflows (by omega) (Dvd.intro_left 2 rfl)
    obtain ⟨v, hrv, hv, -, hcv⟩ := State.BetweenPeriods.turns (rest := List.replicate 2 .seq ++ rest) hu
    obtain ⟨-, -, -, -, hcw⟩ := hv.turns
    calc countSteps State.isUpdate (2 * s.cfg.reload + (2 + 2)) s = 0 + (1 + 0) := by
          rw [countSteps_add _ _ hru, countSteps_add _ _ hrv, hcu, hcv, hcw]
          rfl
      _ = 1 := rfl
  · obtain ⟨u, hru, hu, hcfgu, hcu⟩ := (hstart _ ha).overflows hpos dvd_rfl
    obtain ⟨v, hrv, hv, hcfgv, hcv⟩ := hu.turns
    have hcfg : v.cfg = s.cfg := hcfgv.trans hcfgu
    obtain ⟨w, hrw, hw, -, hcw⟩ := hv.overflows hpos (by rw [hcfg])
    obtain ⟨-, -, -, -, hcx⟩ := hw.turns
    calc countSteps State.isUpdate (2 * s.cfg.reload + 4) s
        = countSteps State.isUpdate (s.cfg.reload + (2 + (s.cfg.reload + 2))) s := by
          congr 1
          omega
      _ = 0 + (1 + (0 + 1)) := by
          rw [countSteps_add _ _ hru, countSteps_add _ _ hrv, countSteps_add _ _ hrw, hcu, hcv, hcw, hcx]
          rfl

/-- O41 at the default RELOAD of 16: 32 overflow events in a row give one update. -/
theorem witness_merged_ticks :
    countSteps State.isUpdate 36
      { State.reset with phase := .idle, agenda := List.replicate 32 .ovf ++ (List.replicate 4 .seq ++ []) } = 1 := by
  obtain ⟨hmerged, -⟩ := mergedTicksGiveOneUpdate
    { State.reset with phase := .idle, agenda := List.replicate 32 .ovf ++ (List.replicate 4 .seq ++ []) } []
    configValid_default rfl rfl rfl (by decide)
  exact hmerged rfl

/-- O41 with two turns after each period: two updates. -/
theorem witness_observed_ticks :
    countSteps State.isUpdate 36
      { State.reset with
        phase := .idle
        agenda := List.replicate 16 .ovf ++ (List.replicate 2 .seq ++ (List.replicate 16 .ovf ++ (List.replicate 2 .seq ++ []))) } =
      2 := by
  obtain ⟨-, hobserved⟩ := mergedTicksGiveOneUpdate
    { State.reset with
      phase := .idle
      agenda := List.replicate 16 .ovf ++ (List.replicate 2 .seq ++ (List.replicate 16 .ovf ++ (List.replicate 2 .seq ++ []))) } []
    configValid_default rfl rfl rfl (by decide)
  exact hobserved rfl

end Sys2Proof.Machine
end

section
/-! SUPPORT. The commands whose next state is one equation (`45_command_port.md` R191, R192, R198 to R200), and the statements O1,
O7, O9, O10 and O12. -/

namespace Sys2Proof.Machine

/-! ### The commands in each mode -/

theorem exec_nop {s : State} (hm : s.mode = .test) : exec .nop s = .next s := inTest_test hm s

theorem exec_ovf {s : State} (hm : s.mode = .test) : exec .ovf s = .next (ovfApply s) := inTest_test hm _

theorem exec_take {s : State} (hm : s.mode = .test) : exec .take s = .next ((s.setRes (zextBit s.tick)).setTick false) :=
  inTest_test hm _

/-- R191: no command has its effect in RUN mode. -/
theorem exec_of_run {s : State} (hm : s.mode = .run) (i : Instr) : exec i s = .next (s.raiseIllegal .cmdInRun) := by
  cases i <;> exact inTest_run hm _

/-- A register of at most 32 bits, shown in RES (`30_encoding.md` R83). -/
theorem zext32_toNat {n : Nat} (x : BitVec n) : zext32 x.toNat = x.setWidth 32 := BitVec.ofNat_toNat 32 x

/-! ### The statements -/

/-- Settles O1: NOP's effect is the state itself, and 0 is its word. -/
theorem nopChangesNothing : Obligations.NopChangesNothing := by
  intro s hm
  exact ⟨exec_nop hm, (cmdWrite_encode (i := .nop) hm rfl).trans (exec_nop hm)⟩

/-- Settles O7: UPDATE is R173's pipeline, and RES gets the value driven. -/
theorem updateCommandRunsThePipeline : Obligations.UpdateCommandRunsThePipeline := by
  intro s hm n f d
  refine ⟨?_, cmdWrite_encode (i := .update) hm rfl⟩
  rw [exec_update hm, updateApply_eq, zext32_toNat]
  rfl

/-- Settles O9: OVF is R170's work, an expiry or a decrement. -/
theorem ovfCommandCountsDown : Obligations.OvfCommandCountsDown := by
  intro s hm _
  refine ⟨?_, cmdWrite_encode (i := .ovf) hm rfl⟩
  rw [exec_ovf hm]
  rcases ovfApply_cases s with ⟨hc, h⟩ | ⟨hc, h⟩
  · rw [h, if_pos hc]
  · rw [h, if_neg hc]

/-- Settles O10: the flag is shown before it is cleared. -/
theorem takeCommandObservesAndClears : Obligations.TakeCommandObservesAndClears := by
  intro s hm
  exact ⟨exec_take hm, cmdWrite_encode (i := .take) hm rfl⟩

/-- Settles O12: no word decodes in RUN mode, and each command checks the mode itself. -/
theorem runModeMakesEveryCommandIllegal : Obligations.RunModeMakesEveryCommandIllegal := by
  intro s hm
  exact ⟨cmdWrite_of_run hm, exec_of_run hm⟩

/-! ### Runs that meet the hypotheses -/

/-- O1 over an old result. -/
theorem witness_nop_keeps_result :
    cmdWrite 0x00000000 { State.reset with mode := .test, res := 7 } = .next { State.reset with mode := .test, res := 7 } := by
  obtain ⟨-, hword⟩ := nopChangesNothing { State.reset with mode := .test, res := 7 } rfl
  exact hword

/-- O7 with a tick pending: the port is driven, the latch and RES hold the value, and the tick stays. -/
theorem witness_update_word_keeps_tick :
    ∃ t, cmdWrite 0x00006000 { State.reset with mode := .test, lfsr := 2, tick := true } = .next t ∧ t.tick = true ∧
      t.port = [t.duty] ∧ t.res = t.duty.setWidth 32 := by
  obtain ⟨hupdate, hword⟩ := updateCommandRunsThePipeline { State.reset with mode := .test, lfsr := 2, tick := true } rfl
  exact ⟨_, hword.trans hupdate, rfl, rfl, rfl⟩

/-- O9 at an expiry with the default RELOAD of 16. -/
theorem witness_ovf_command_expires :
    exec .ovf { State.reset with mode := .test, cnt := 1 } = .next { State.reset with mode := .test, cnt := 16, tick := true } := by
  obtain ⟨hovf, -⟩ := ovfCommandCountsDown { State.reset with mode := .test, cnt := 1 } rfl (by decide)
  exact hovf

/-- O10 at a pending tick. -/
theorem witness_take_clears_tick :
    exec .take { State.reset with mode := .test, tick := true } =
      .next { State.reset with mode := .test, res := 1, tick := false } := by
  obtain ⟨htake, -⟩ := takeCommandObservesAndClears { State.reset with mode := .test, tick := true } rfl
  exact htake

/-- O12 at NOP's word, over an error already there. -/
theorem witness_nop_word_in_run_mode :
    cmdWrite 0x00000000 { State.reset with err := true, cause := 3 } = .next { State.reset with err := true, cause := 1 } := by
  obtain ⟨hword, -⟩ := runModeMakesEveryCommandIllegal { State.reset with err := true, cause := 3 } rfl
  exact hword 0x00000000

end Sys2Proof.Machine
end

section
/-! SUPPORT. The shaper's sample as a sum of bits (`41_shaper.md` R130, `45_command_port.md` R195), and the statement O4. -/

namespace Sys2Proof.Machine

theorem lfsrBit_add (w : Word) (m k : Nat) : lfsrBit w (m + k) = lfsrBit (lfsrIter m w) k := by
  rw [lfsrBit, lfsrIter_add, lfsrBit]

/-- The bits that a draw packs after `m` steps. -/
theorem packedBits_lfsrIter (w : Word) (m n : Nat) :
    packedBits (lfsrIter m w) n = ∑ k ∈ Finset.range n, lfsrBit w (m + k) * 2 ^ (n - 1 - k) := by
  simp only [packedBits, lfsrBit_add]

/-- The first bit counts with the others. -/
theorem sum_lfsrBit_succ (w : Word) (n : Nat) :
    ∑ k ∈ Finset.range (n + 1), lfsrBit w k = ∑ k ∈ Finset.range n, lfsrBit (lfsrStep w).1 k + (lfsrStep w).2.toNat := by
  rw [Finset.sum_range_succ']
  rfl

/-- The binomial loop counts the set bits, 16 for each. Wrapped or not, the sum is the same in an 8-bit register. -/
theorem ofInt_binomLoop (n : Nat) (w : Word) (acc : Int) :
    BitVec.ofInt 8 (binomLoop n (w, acc)).2 = BitVec.ofInt 8 (acc + 16 * (∑ k ∈ Finset.range n, lfsrBit w k : Nat)) := by
  induction n generalizing w acc with
  | zero => rw [binomLoop, Finset.sum_range_zero, Nat.cast_zero, mul_zero, add_zero]
  | succ n ih =>
    rw [binomLoop, ih, BitVec.ofInt_add, ofInt_wrap (by decide), ← BitVec.ofInt_add, sum_lfsrBit_succ]
    congr 1
    push_cast
    ring

/-- R130 with its loop still in it: the binomial sum, the minuend and the subtrahend. -/
theorem normal_sample (w : Word) :
    (normal w).2 =
      wrap 8 ((binomLoop 16 (w, -128)).2 + packedBits (lfsrIter 16 w) 4 - packedBits (lfsrIter 20 w) 4) := by
  simp only [normal, draw_eq, binomLoop_lfsr, ← lfsrIter_add]

/-- In an 8-bit register the loop's wraps drop out of the sample. -/
theorem ofInt_sample (w : Word) (a c : Int) :
    BitVec.ofInt 8 ((binomLoop 16 (w, -128)).2 + a - c) =
      BitVec.ofInt 8 (16 * (∑ k ∈ Finset.range 16, lfsrBit w k : Nat) - 128 + a - c) := by
  rw [add_sub_assoc, BitVec.ofInt_add, ofInt_binomLoop, ← BitVec.ofInt_add]
  exact congrArg _ (by ring)

/-- R83: a signed value of a smaller register, in RES. -/
theorem sext32_wrap {N : Nat} (hN : 0 < N) (v : Int) : sext32 (wrap N v) = (BitVec.ofInt N v).signExtend 32 := by
  rw [wrap_eq_toInt_ofInt hN]
  rfl

theorem exec_normal {s : State} (hm : s.mode = .test) :
    exec .normal s = .next ((s.setLfsr (normal s.lfsr).1).setRes (sext32 (normal s.lfsr).2)) := inTest_test hm _

/-- Settles O4: the sample is its binomial sum and its two draws, and RES takes it from an 8-bit register. -/
theorem normalCommandSumsBitsAndWraps : Obligations.NormalCommandSumsBitsAndWraps := by
  intro s hm ones a c
  have ha : packedBits (lfsrIter 16 s.lfsr) 4 = a := packedBits_lfsrIter s.lfsr 16 4
  have hc : packedBits (lfsrIter 20 s.lfsr) 4 = c := packedBits_lfsrIter s.lfsr 20 4
  refine ⟨?_, cmdWrite_encode (i := .normal) hm rfl⟩
  rw [exec_normal hm, normal_lfsr, normal_sample, sext32_wrap (by decide), ha, hc, ofInt_sample]
  rfl

/-- O4 from the LFSR state 2 (`95_test_vectors.md` P3): eight bits are set among the first sixteen, then come 8 and 14, and the sample
is -6. -/
theorem witness_normal_from_two :
    ∃ t, exec .normal { State.reset with mode := .test, lfsr := 2 } = .next t ∧ t.res = 0xFFFFFFFA := by
  obtain ⟨hnormal, -⟩ := normalCommandSumsBitsAndWraps { State.reset with mode := .test, lfsr := 2 } rfl
  have hones : ∑ k ∈ Finset.range 16, lfsrBit 2 k = 8 := by decide
  have ha : ∑ k ∈ Finset.range 4, lfsrBit 2 (16 + k) * 2 ^ (3 - k) = 8 := by decide
  have hc : ∑ k ∈ Finset.range 4, lfsrBit 2 (20 + k) * 2 ^ (3 - k) = 14 := by decide
  rw [hones, ha, hc] at hnormal
  exact ⟨_, hnormal, by decide⟩

end Sys2Proof.Machine
end

section
/-! SUPPORT. What no command touches, register by register (`45_command_port.md` R190, R193 to R200), and the statement O11. -/

namespace Sys2Proof.Machine

/-! ### The registers that commands write -/

/-- The overflow step's work reaches the counter and the tick flag. -/
theorem ovfApply_eq (s : State) : ovfApply s = { s with cnt := (ovfApply s).cnt, tick := (ovfApply s).tick } := by
  rcases ovfApply_cases s with ⟨-, h⟩ | ⟨-, h⟩ <;> rw [h]

/-- Whatever the command and the mode, these ten fields are all that can change. -/
theorem exec_eq_with {i : Instr} {s t : State} (h : exec i s = .next t) :
    t = { s with
      lfsr := t.lfsr, z1 := t.z1, z2 := t.z2, tick := t.tick, cnt := t.cnt, duty := t.duty, err := t.err, cause := t.cause,
      res := t.res, port := t.port } := by
  cases i with
  | nop | step | normal | filter _ | map | update | take => rcases inTest_cases h with ⟨-, rfl⟩ | ⟨-, rfl⟩ <;> rfl
  | draw n =>
    rcases inTest_cases h with ⟨-, rfl⟩ | ⟨-, rfl⟩
    · split_ifs <;> rfl
    · rfl
  | ovf =>
    rcases inTest_cases h with ⟨-, rfl⟩ | ⟨-, rfl⟩
    · rw [ovfApply_eq]
    · rfl

/-! ### Who writes which of them -/

/-- What a command's effect and an illegal command leave alone, the command leaves alone. -/
theorem inTest_keeps {α : Type} (f : State → α) {s e t : State} (he : f e = f s) (hr : f (s.raiseIllegal .cmdInRun) = f s)
    (h : s.inTest e = .next t) : f t = f s := by
  rcases inTest_cases h with ⟨-, rfl⟩ | ⟨-, rfl⟩
  · exact he
  · exact hr

/-- DRAW's effect writes LFSR and RES, or raises cause 4. -/
theorem exec_draw_keeps {α : Type} (f : State → α) {n : BitVec 4} {s t : State}
    (he : ∀ w v, f ((s.setLfsr w).setRes v) = f s) (hr : ∀ c, f (s.raiseIllegal c) = f s) (h : exec (.draw n) s = .next t) :
    f t = f s := by
  refine inTest_keeps f ?_ (hr _) h
  split_ifs
  · exact he _ _
  · exact hr _

/-- Only UPDATE drives the port. -/
theorem exec_duty_port {i : Instr} {s t : State} (hi : i ≠ .update) (h : exec i s = .next t) :
    (t.duty, t.port) = (s.duty, s.port) := by
  cases i with
  | nop | step | normal | filter _ | map | take =>
    refine inTest_keeps (fun u => (u.duty, u.port)) ?_ rfl h
    rfl
  | draw n => exact exec_draw_keeps (fun u => (u.duty, u.port)) (fun _ _ => rfl) (fun _ => rfl) h
  | ovf => exact inTest_keeps (fun u => (u.duty, u.port)) (by rw [ovfApply_eq]) rfl h
  | update => exact absurd rfl hi

/-- Only UPDATE and FILTER run the filter. -/
theorem exec_delays {i : Instr} {s t : State} (hi : i ≠ .update) (hf : ∀ x, i ≠ .filter x) (h : exec i s = .next t) :
    (t.z1, t.z2) = (s.z1, s.z2) := by
  cases i with
  | nop | step | normal | map | take =>
    refine inTest_keeps (fun u => (u.z1, u.z2)) ?_ rfl h
    rfl
  | draw n => exact exec_draw_keeps (fun u => (u.z1, u.z2)) (fun _ _ => rfl) (fun _ => rfl) h
  | ovf => exact inTest_keeps (fun u => (u.z1, u.z2)) (by rw [ovfApply_eq]) rfl h
  | update => exact absurd rfl hi
  | filter x => exact absurd rfl (hf x)

/-- Only OVF counts. -/
theorem exec_cnt {i : Instr} {s t : State} (hi : i ≠ .ovf) (h : exec i s = .next t) : t.cnt = s.cnt := by
  cases i with
  | nop | step | normal | filter _ | map | update | take =>
    refine inTest_keeps State.cnt ?_ rfl h
    rfl
  | draw n => exact exec_draw_keeps State.cnt (fun _ _ => rfl) (fun _ => rfl) h
  | ovf => exact absurd rfl hi

/-- Only OVF and TAKE reach the tick flag. -/
theorem exec_tick {i : Instr} {s t : State} (ho : i ≠ .ovf) (hi : i ≠ .take) (h : exec i s = .next t) : t.tick = s.tick := by
  cases i with
  | nop | step | normal | filter _ | map | update =>
    refine inTest_keeps State.tick ?_ rfl h
    rfl
  | draw n => exact exec_draw_keeps State.tick (fun _ _ => rfl) (fun _ => rfl) h
  | ovf => exact absurd rfl ho
  | take => exact absurd rfl hi

/-- A well-formed command raises nothing in TEST mode. -/
theorem exec_err_cause {i : Instr} {s t : State} (hm : s.mode = .test) (hwf : i.wf = true) (h : exec i s = .next t) :
    t.err = s.err ∧ t.cause = s.cause := by
  rcases exec_control hm hwf h with hk | ⟨-, d, hk⟩ <;> exact ⟨congrArg Control.err hk, congrArg Control.cause hk⟩

/-! ### The statement -/

/-- Settles O11: ten fields can change at all, and each of them that the statement names has its own commands. -/
theorem commandsLeaveTheRestAlone : Obligations.CommandsLeaveTheRestAlone := by
  intro i s t h
  have hrest := exec_eq_with h
  exact ⟨State.storeByte_of_store_eq (exec_store h), (congrArg State.cfg hrest :), (congrArg State.arg hrest :),
    (congrArg State.seedw hrest :), (congrArg State.phase hrest :), (congrArg State.mode hrest :),
    (congrArg State.agenda hrest :), (congrArg State.resp hrest :), (congrArg State.draws hrest :),
    fun hi => Prod.mk.inj (exec_duty_port hi h), fun hi hf => Prod.mk.inj (exec_delays hi hf h),
    fun hi => ⟨exec_cnt hi h, fun ht => exec_tick hi ht h⟩, fun hm hwf => exec_err_cause hm hwf h⟩

/-- O11 at MAP in TEST mode, with a byte in the store and an error already there. -/
theorem witness_map_keeps_store_and_error :
    ∃ t, exec .map { State.reset with mode := .test, store := [(0, 2)], err := true, cause := 4 } = .next t ∧
      t.storeByte 0 = 2 ∧ t.duty = State.reset.duty ∧ t.err = true ∧ t.cause = 4 := by
  obtain ⟨hstore, -, -, -, -, -, -, -, -, hduty, -, -, herr⟩ :=
    commandsLeaveTheRestAlone .map { State.reset with mode := .test, store := [(0, 2)], err := true, cause := 4 } _ rfl
  obtain ⟨herr, hcause⟩ := herr rfl rfl
  exact ⟨_, rfl, (hstore 0).trans (by decide), (hduty nofun).1, herr, hcause⟩

end Sys2Proof.Machine
end

section
/-! SUPPORT. A CMD write on the agenda is the next step (`45_command_port.md` R190, `20_memory.md` R63), and the statements O17
and O18. -/

namespace Sys2Proof.Machine

theorem cmdWrite_of_op {w : Word} {s : State} {i : Instr} (h : decode s.mode w = .op i) : cmdWrite w s = exec i s := by
  simp only [cmdWrite, h]

/-- After the boot step, HOST's write to CMD is the next step. -/
theorem step_of_cmd_write {s : State} {rest : List Event} {w : Word} (hc : configValid s.cfg = true) (hb : s.phase ≠ .boot)
    (ha : s.agenda = .write .b4 s.cfg.winBase w :: rest) : step s = cmdWrite w ((s.withAgenda rest).respond .written) :=
  step_of_window_write (o := 0x00) hc hb (by decide) (by decide) ha

/-- The word of a table entry that decodes is a word that decodes in TEST mode. -/
theorem decode_of_decodeTableWord {nbits w : Nat} {i : Instr} (h : decodeTableWord nbits w = some i) :
    decode .test (tableWord nbits w) = .op i := by
  unfold decodeTableWord at h
  split_ifs at h
  split at h
  · rename_i j hj
    injection h with h
    exact h ▸ hj
  · nomatch h

/-! ### The statements -/

/-- Settles O17: the write reaches CMD, and `cmd_write` decides by what the word decodes to. -/
theorem stepRunsTheDecodedCommand : Obligations.StepRunsTheDecodedCommand := by
  intro s rest w hc hb ha s'
  have hstep : step s = cmdWrite w s' := step_of_cmd_write hc hb ha
  exact ⟨hstep, fun i hi => hstep.trans (cmdWrite_of_op hi), fun c hi => hstep.trans (cmdWrite_of_illegal hi)⟩

/-- Settles O18: the placed write is a CMD write of a machine in TEST mode. -/
theorem placedWordRunsNext : Obligations.PlacedWordRunsNext := by
  intro s w i hc hi
  obtain ⟨-, hrun, -⟩ := stepRunsTheDecodedCommand (s.withFetchWord 32 w) s.agenda (tableWord 32 w) hc nofun rfl
  exact hrun i (decode_of_decodeTableWord hi)

/-! ### Runs that meet the hypotheses -/

/-- O17 at a word that does not decode, DRAW's with a count of 9. -/
theorem witness_draw_nine_word_raises :
    step { State.reset with phase := .idle, mode := .test, agenda := [.write .b4 0 0x00002900] } =
      .next { State.reset with phase := .idle, mode := .test, agenda := [], resp := .written, err := true, cause := 4 } := by
  obtain ⟨-, -, hraise⟩ :=
    stepRunsTheDecodedCommand { State.reset with phase := .idle, mode := .test, agenda := [.write .b4 0 0x00002900] } []
      0x00002900 configValid_default nofun rfl
  exact hraise .drawRange (by decide)

/-- O18 at TAKE's word, placed from the reset state. -/
theorem witness_placed_take :
    step (State.reset.withFetchWord 32 0x00008000) =
      exec .take { State.reset with phase := .idle, mode := .test, resp := .written } :=
  placedWordRunsNext State.reset 0x00008000 .take configValid_default (by decide)

end Sys2Proof.Machine
end

section
/-! SUPPORT. What the sixteen window registers show, and what a write to one of them does (`10_state.md` R33, `45_command_port.md`
R201, R202), and the statements O54 and O55. -/

namespace Sys2Proof.Machine

/-! ### The registers as numbers (R33) -/

/-- Fields in one register add up, each at its own weight. -/
theorem toNat_append_eq_add {m n : Nat} (x : BitVec m) (y : BitVec n) : (x ++ y).toNat = 2 ^ n * x.toNat + y.toNat := by
  rw [BitVec.toNat_append, ← Nat.shiftLeft_add_eq_or_of_lt y.isLt, Nat.shiftLeft_eq, Nat.mul_comm]

/-- Zeros above a register leave its value. -/
theorem zero_append_eq_setWidth {m n : Nat} (x : BitVec n) : 0#m ++ x = x.setWidth (m + n) := by
  apply BitVec.eq_of_toNat_eq
  rw [toNat_append_eq_add, BitVec.toNat_ofNat, Nat.zero_mod, Nat.mul_zero, Nat.zero_add, BitVec.toNat_setWidth_of_le (by omega)]

theorem bit_toNat (b : Bool) : (bit b).toNat = if b then 1 else 0 := by cases b <;> rfl

/-- The STATUS word. -/
theorem status_eq_ofNat (s : State) :
    s.status = BitVec.ofNat 32 ((if s.mode = .test then 1 else 0) + (if s.tick then 2 else 0) +
      (if s.phase = .updating then 4 else 0) + (if s.err then 8 else 0) + 16 * s.cause.toNat) := by
  apply BitVec.eq_of_toNat_eq
  have hcause := s.cause.isLt
  simp only [State.status, toNat_append_eq_add, bit_toNat, BitVec.toNat_ofNat, decide_eq_true_eq]
  split_ifs <;> omega

/-- The configuration word of WIND and RELOAD. -/
theorem wind_reload_eq_ofNat {c : Config} (hc : configValid c = true) :
    0#8 ++ BitVec.ofNat 8 c.wind ++ BitVec.ofNat 16 c.reload = BitVec.ofNat 32 (c.reload + 65536 * c.wind) := by
  obtain ⟨⟨-, hreload⟩, hwind, -⟩ := configValid_bounds hc
  apply BitVec.eq_of_toNat_eq
  simp only [toNat_append_eq_add, BitVec.toNat_ofNat]
  omega

theorem mapDiv_eq_ofNat {c : Config} (hc : configValid c = true) :
    0#17 ++ BitVec.ofNat 15 c.mapDiv = BitVec.ofNat 32 c.mapDiv := by
  obtain ⟨-, -, ⟨-, hdiv⟩, -⟩ := configValid_bounds hc
  apply BitVec.eq_of_toNat_eq
  simp only [toNat_append_eq_add, BitVec.toNat_ofNat]
  omega

/-! ### A write to a register other than CMD (R202) -/

theorem writeReg_ignored {o : Nat} (hcmd : o ≠ 0x00) (harg : o ≠ 0x04) (hstatus : o ≠ 0x0C) (v : Word) (s : State) :
    writeReg o v s = .next s := by
  rcases writeReg_cases (o := o) (v := v) (s := s) rfl with ⟨h, -⟩ | ⟨h, -⟩ | ⟨h, -⟩ | ⟨h, -⟩ | ⟨-, -, -, h⟩
  · exact absurd h hcmd
  · exact absurd h harg
  · exact absurd h hstatus
  · exact absurd h hstatus
  · exact h

theorem writeReg_status (v : Word) (s : State) : writeReg 0x0C v s = .next (if v.getLsbD 3 then s.clearErr else s) := rfl

/-! ### The statements -/

/-- Settles O54: each value of the table is the one that the read of its offset answers. -/
theorem windowReadsShowTheRegisters : Obligations.WindowReadsShowTheRegisters := by
  intro s rest o v hc hb hv ha
  rw [← status_eq_ofNat, ← wind_reload_eq_ofNat hc, ← mapDiv_eq_ofNat hc, ← zero_append_eq_setWidth (m := 16),
    ← zero_append_eq_setWidth (m := 24)] at hv
  have hreg : o % 4 = 0 ∧ o ≤ 0x3C ∧ readReg o s = v := by
    simp only [List.mem_cons, Prod.mk.injEq, List.not_mem_nil, or_false] at hv
    rcases hv with ⟨rfl, rfl⟩ | ⟨rfl, rfl⟩ | ⟨rfl, rfl⟩ | ⟨rfl, rfl⟩ | ⟨rfl, rfl⟩ | ⟨rfl, rfl⟩ | ⟨rfl, rfl⟩ | ⟨rfl, rfl⟩ |
      ⟨rfl, rfl⟩ | ⟨rfl, rfl⟩ | ⟨rfl, rfl⟩ | ⟨rfl, rfl⟩ | ⟨rfl, rfl⟩ | ⟨rfl, rfl⟩ | ⟨rfl, rfl⟩ | ⟨rfl, rfl⟩ <;>
      exact ⟨rfl, by decide, rfl⟩
  obtain ⟨halign, hin, rfl⟩ := hreg
  exact step_of_window_read hc hb halign hin ha

/-- Settles O55: what the write does is decided by its offset alone, and at STATUS by bit 3. -/
theorem windowWritesOtherThanCmd : Obligations.WindowWritesOtherThanCmd := by
  intro s rest o v hc hb halign hcmd hin ha
  rw [step_of_window_write hc hb halign hin ha]
  by_cases harg : o = 0x04
  · rw [if_pos harg, harg]
    rfl
  rw [if_neg harg]
  by_cases hstatus : o = 0x0C
  · by_cases hv : v.getLsbD 3 = true
    · rw [if_pos ⟨hstatus, hv⟩, hstatus, writeReg_status_clear _ hv]
      rfl
    · rw [if_neg fun h => hv h.2, hstatus, writeReg_status, if_neg hv]
      rfl
  · rw [if_neg fun h => hstatus h.1, writeReg_ignored hcmd harg hstatus]
    rfl

/-! ### Runs that meet the hypotheses -/

/-- O54 at STATUS in TEST mode, with a tick pending and cause 5: 0x01 + 0x02 + 0x08 + 0x50. -/
theorem witness_status_read :
    step { State.reset with phase := .idle, mode := .test, tick := true, err := true, cause := 5, agenda := [.read .b4 0x0C] } =
      .next { State.reset with phase := .idle, mode := .test, tick := true, err := true, cause := 5, agenda := [],
                               resp := .data 0x5B } :=
  windowReadsShowTheRegisters
    { State.reset with phase := .idle, mode := .test, tick := true, err := true, cause := 5, agenda := [.read .b4 0x0C] } []
    0x0C 0x5B configValid_default nofun (.tail _ (.tail _ (.tail _ (.head _)))) rfl

/-- O55 at STATUS with bit 3 clear: the error stays. -/
theorem witness_status_write_without_bit_three :
    step { State.reset with phase := .idle, err := true, cause := 1, agenda := [.write .b4 0x0C 0xFFFFFFF7] } =
      .next { State.reset with phase := .idle, err := true, cause := 1, agenda := [], resp := .written } :=
  windowWritesOtherThanCmd { State.reset with phase := .idle, err := true, cause := 1, agenda := [.write .b4 0x0C 0xFFFFFFF7] } []
    0x0C 0xFFFFFFF7 configValid_default nofun rfl (by decide) (by decide) rfl

end Sys2Proof.Machine
end

section
/-! SUPPORT. HOST beside a running machine (`45_command_port.md` R191, `20_memory.md` R62): which registers its accesses write in RUN
mode, and that the rest of the run does not depend on them; and the statements O52 and O53. -/

namespace Sys2Proof.Machine

/-! ### Who writes ARG: HOST, through its register -/

theorem cmdWrite_arg {w : Word} {s t : State} (h : cmdWrite w s = .next t) : t.arg = s.arg := by
  rcases cmdWrite_cases h with ⟨c, -, he⟩ | ⟨i, -, he⟩
  · injection he with he
    exact he ▸ rfl
  · exact (congrArg State.arg (exec_eq_with he.symm) :)

theorem hostWrite_arg {w : Width} {a : Nat} {v : Word} {s t : State} (h : hostWrite w a v s = .next t) :
    t.arg = s.arg ∨ (w = .b4 ∧ a = s.cfg.winBase + 0x04 ∧ t.arg = v) := by
  rcases hostWrite_cases h with ⟨-, hl, he⟩ | ⟨-, -, he⟩ | ⟨-, he⟩
  · obtain ⟨hw, -, hlo, -⟩ := legalAccess_iff.1 hl
    rcases writeReg_cases he.symm with ⟨-, hr⟩ | ⟨ho, hr⟩ | ⟨-, -, hr⟩ | ⟨-, -, hr⟩ | ⟨-, -, -, hr⟩
    · exact .inl (cmdWrite_arg (s := s.respond .written) hr.symm)
    all_goals injection hr with hr
    · exact .inr ⟨hw, by omega, hr ▸ rfl⟩
    all_goals exact .inl (hr ▸ rfl)
  all_goals
    injection he with he
    exact .inl (he ▸ rfl)

/-! ### Who writes ERR and CAUSE in RUN mode -/

/-- In RUN mode they change by a CMD write, which is illegal, or by a clear. -/
theorem hostWrite_err_cause_of_run {w : Width} {a : Nat} {v : Word} {s t : State} (hm : s.mode = .run)
    (h : hostWrite w a v s = .next t) :
    (t.err = s.err ∧ t.cause = s.cause) ∨
    (w = .b4 ∧ a = s.cfg.winBase ∧ t.err = true ∧ t.cause = 1) ∨
    (w = .b4 ∧ a = s.cfg.winBase + 0x0C ∧ v.getLsbD 3 = true ∧ t.err = false ∧ t.cause = 0) := by
  rcases hostWrite_control h with hk | ⟨-, -, htest, -⟩ | ⟨hw, ha, c, hc, hk⟩ | ⟨hw, ha, hv, hk⟩
  · exact .inl ⟨congrArg Control.err hk, congrArg Control.cause hk⟩
  · exact nomatch hm.symm.trans htest
  · rw [hm, decode_run] at hc
    injection hc with hc
    subst hc
    exact .inr (.inl ⟨hw, ha, congrArg Control.err hk, congrArg Control.cause hk⟩)
  · exact .inr (.inr ⟨hw, ha, hv, congrArg Control.err hk, congrArg Control.cause hk⟩)

/-- The pipeline and the five fields left out of it are the whole state. -/
theorem eq_of_pipeline_eq {s t : State} (h : t.pipeline = s.pipeline) :
    t = { s with arg := t.arg, err := t.err, cause := t.cause, resp := t.resp, agenda := t.agenda } := by
  calc t = { t.pipeline with arg := t.arg, err := t.err, cause := t.cause, resp := t.resp, agenda := t.agenda } := rfl
    _ = { s.pipeline with arg := t.arg, err := t.err, cause := t.cause, resp := t.resp, agenda := t.agenda } := by rw [h]

/-- Settles O52: an access keeps the pipeline, and what it writes outside the pipeline is traced to its offset. -/
theorem runModeHostOnlyObserves : Obligations.RunModeHostOnlyObserves := by
  intro s e rest hc hm hb ha he
  refine ⟨fun w hw => ?_, ?_⟩
  · subst hw
    exact (step_of_cmd_write hc hb ha).trans (cmdWrite_of_run (s := (s.withAgenda rest).respond .written) hm w)
  obtain ⟨t, ht, hk, hrest⟩ := step_of_access_keeps_pipeline hc hm hb ha he
  refine ⟨t, ht, hrest ▸ eq_of_pipeline_eq hk, ?_⟩
  cases e with
  | read w a =>
    obtain ⟨r, rfl⟩ := hostRead_eq_respond ((step_of_read hc hb ha).symm.trans ht)
    exact ⟨.inl rfl, .inl ⟨rfl, rfl⟩⟩
  | write w a v =>
    have hwrite : hostWrite w a v (s.withAgenda rest) = .next t := (step_of_write hc hb ha).symm.trans ht
    constructor
    · rcases hostWrite_arg hwrite with harg | ⟨rfl, rfl, rfl⟩
      · exact .inl harg
      · exact .inr rfl
    · rcases hostWrite_err_cause_of_run (s := s.withAgenda rest) hm hwrite with
        hkeep | ⟨rfl, rfl, hset⟩ | ⟨rfl, rfl, hv, hclear⟩
      · exact .inl hkeep
      · exact .inr (.inl ⟨⟨v, rfl⟩, hset⟩)
      · exact .inr (.inr ⟨⟨v, rfl, hv⟩, hclear⟩)
  | seq | ovf | storeRead | storeWrite | reset | powerCycle => nomatch he

/-! ### SEQ and TMR read nothing but the pipeline -/

theorem ovfApply_pipeline (s : State) : (ovfApply s).pipeline = ovfApply s.pipeline := apply_ite State.pipeline _ _ _

theorem overflowStep_pipeline (s : State) : (overflowStep s).pipeline = overflowStep s.pipeline := by
  rw [overflowStep, apply_ite State.pipeline, ovfApply_pipeline]
  rfl

theorem seqTurn_pipeline {s : State} (hb : s.phase ≠ .boot) : (seqTurn s).pipeline = seqTurn s.pipeline := by
  cases hp : s.phase with
  | boot => exact absurd hp hb
  | idle =>
    rw [seqTurn_of_idle hp, seqTurn_of_idle (s := s.pipeline) hp]
    exact apply_ite State.pipeline _ _ _
  | updating =>
    rw [seqTurn_of_updating hp, seqTurn_of_updating (s := s.pipeline) hp]
    exact apply_ite State.pipeline _ _ _

/-! ### A run of turns, overflow events and bus accesses in RUN mode -/

/-- A machine in RUN mode after its boot step. -/
structure State.Running (s : State) : Prop where
  config : configValid s.cfg = true
  mode : s.mode = .run
  booted : s.phase ≠ .boot

theorem State.Running.seqTurn {s : State} (h : s.Running) : (seqTurn s).Running where
  config := by rw [seqTurn_cfg]; exact h.config
  mode := (seqTurn_mode s).trans h.mode
  booted := seqTurn_phase_ne_boot s

theorem State.Running.overflowStep {s : State} (h : s.Running) : (overflowStep s).Running := by
  rw [overflowStep_of_run h.mode h.booted, ovfApply_eq]
  exact ⟨h.config, h.mode, h.booted⟩

theorem State.Running.withAgenda {s : State} (h : s.Running) (es : List Event) : (s.withAgenda es).Running :=
  ⟨h.config, h.mode, h.booted⟩

theorem State.Running.of_pipeline_eq {s t : State} (h : s.Running) (hk : t.pipeline = s.pipeline) : t.Running := by
  rw [eq_of_pipeline_eq hk]
  exact ⟨h.config, h.mode, h.booted⟩

/-- What an event of such a run does to the pipeline: SEQ and TMR take their steps, and HOST's accesses do nothing. -/
def pipelineAfter (p : State) : Event → State
  | .seq => seqTurn p
  | .ovf => overflowStep p
  | .read _ _ | .write _ _ _ | .storeRead _ | .storeWrite _ _ | .reset _ | .powerCycle _ _ => p

theorem pipelineAfter_of_isAccess {e : Event} (h : e.isAccess = true) (p : State) : pipelineAfter p e = p := by
  cases e with
  | read | write => rfl
  | seq | ovf | storeRead | storeWrite | reset | powerCycle => nomatch h

/-- The step of a running machine, seen on its pipeline. -/
theorem State.Running.step_pipeline {s : State} {e : Event} {rest : List Event} (h : s.Running) (ha : s.agenda = e :: rest)
    (he : e = .seq ∨ e.passive = true) :
    ∃ t, step s = .next t ∧ t.agenda = rest ∧ t.Running ∧ t.pipeline = pipelineAfter s.pipeline e := by
  rcases he with rfl | he
  · exact ⟨_, step_of_seq h.config ha, rfl, h.seqTurn.withAgenda rest, seqTurn_pipeline h.booted⟩
  rcases ovf_or_access_of_passive he with rfl | he
  · exact ⟨_, step_of_ovf h.config ha, rfl, h.overflowStep.withAgenda rest, overflowStep_pipeline s⟩
  · obtain ⟨t, ht, hk, hrest⟩ := step_of_access_keeps_pipeline h.config h.mode h.booted ha he
    exact ⟨t, ht, hrest, h.of_pipeline_eq hk, hk.trans (pipelineAfter_of_isAccess he _).symm⟩

/-- The run answers, and folds the events over the pipeline. -/
theorem State.Running.runFor_pipeline {s : State} {es : List Event} (h : s.Running) (ha : s.agenda = es)
    (hes : ∀ e ∈ es, e = .seq ∨ e.passive = true) :
    ∃ t, runFor es.length s = .next t ∧ t.pipeline = es.foldl pipelineAfter s.pipeline := by
  induction es generalizing s with
  | nil => exact ⟨s, rfl, rfl⟩
  | cons e es ih =>
    obtain ⟨he, htail⟩ := List.forall_mem_cons.1 hes
    obtain ⟨u, hstep, hrest, hu, hk⟩ := h.step_pipeline ha he
    obtain ⟨t, hrun, ht⟩ := ih hu hrest htail
    exact ⟨t, (runFor_succ es.length hstep).trans hrun, by rw [ht, hk, List.foldl_cons]⟩

/-- HOST's accesses can be left out of the fold. -/
theorem foldl_pipelineAfter_filter (es : List Event) (p : State) :
    (es.filter fun e => !e.isAccess).foldl pipelineAfter p = es.foldl pipelineAfter p := by
  induction es generalizing p with
  | nil => rfl
  | cons e es ih =>
    cases he : e.isAccess with
    | true => rw [List.filter_cons_of_neg (by simp [he]), List.foldl_cons, pipelineAfter_of_isAccess he, ih]
    | false => rw [List.filter_cons_of_pos (by simp [he]), List.foldl_cons, List.foldl_cons, ih]

/-- Settles O53: both runs fold the same steps of SEQ and TMR over the same pipeline. -/
theorem runModeAccessesDoNotInterfere : Obligations.RunModeAccessesDoNotInterfere := by
  intro s es hc hm hb hes es'
  have h : s.Running := ⟨hc, hm, hb⟩
  obtain ⟨t, hrun, ht⟩ := (h.withAgenda es).runFor_pipeline rfl hes
  obtain ⟨t', hrun', ht'⟩ := (h.withAgenda es').runFor_pipeline rfl fun e he => hes e (List.mem_of_mem_filter he)
  refine ⟨t, t', hrun, hrun', ?_⟩
  calc t.pipeline = es.foldl pipelineAfter s.pipeline := ht
    _ = es'.foldl pipelineAfter s.pipeline := (foldl_pipelineAfter_filter es s.pipeline).symm
    _ = t'.pipeline := ht'.symm

/-! ### Runs that meet the hypotheses -/

/-- O52 at STEP's word, which leaves the LFSR alone. -/
theorem witness_step_word_in_run_mode :
    step { State.reset with phase := .idle, lfsr := 2, agenda := [.write .b4 0 0x00001000] } =
      .next { State.reset with phase := .idle, lfsr := 2, agenda := [], resp := .written, err := true, cause := 1 } := by
  obtain ⟨hillegal, -⟩ := runModeHostOnlyObserves
    { State.reset with phase := .idle, lfsr := 2, agenda := [.write .b4 0 0x00001000] } (.write .b4 0 0x00001000) []
    configValid_default rfl nofun rfl rfl
  exact hillegal 0x00001000 rfl

/-- O53 over an update cycle with a CMD write in front of it: the write is illegal, and the duty is the same without it. -/
theorem witness_illegal_write_leaves_duty :
    ∃ t t', runFor 2 { State.reset with phase := .updating, agenda := [.write .b4 0 0x00001000, .seq] } = .next t ∧
      runFor 1 { State.reset with phase := .updating, agenda := [.seq] } = .next t' ∧ t.err = true ∧ t'.err = false ∧
      t.duty = t'.duty := by
  obtain ⟨t, t', ht, ht', hk⟩ := runModeAccessesDoNotInterfere { State.reset with phase := .updating }
    [.write .b4 0 0x00001000, .seq] configValid_default rfl nofun (by decide)
  have hduty : t.duty = t'.duty := (congrArg State.duty hk :)
  refine ⟨t, t', ht, ht', ?_, ?_, hduty⟩
  · injection ht with ht
    exact ht ▸ rfl
  · injection ht' with ht'
    exact ht' ▸ rfl

end Sys2Proof.Machine
end

section
/-! SUPPORT. The two orders of an overflow step and SEQ's turn (`60_exceptions.md` R224), and the statements O43 and O44. -/

namespace Sys2Proof.Machine

/-! ### Two adjacent events of TMR and SEQ -/

theorem overflowStep_cfg (s : State) : (overflowStep s).cfg = s.cfg := congrArg Control.cfg (overflowStep_control s)

theorem step_withAgenda_ovf {s : State} (hc : configValid s.cfg = true) (rest : List Event) :
    step (s.withAgenda (.ovf :: rest)) = .next ((overflowStep s).withAgenda rest) :=
  (step_of_ovf (s := s.withAgenda (.ovf :: rest)) hc rfl).trans (by rw [overflowStep_withAgenda, State.withAgenda_withAgenda])

theorem step_withAgenda_seq {s : State} (hc : configValid s.cfg = true) (rest : List Event) :
    step (s.withAgenda (.seq :: rest)) = .next ((seqTurn s).withAgenda rest) :=
  (step_of_seq (s := s.withAgenda (.seq :: rest)) hc rfl).trans (by rw [seqTurn_withAgenda, State.withAgenda_withAgenda])

theorem runFor_ovf_seq {s : State} (hc : configValid s.cfg = true) (rest : List Event) :
    runFor 2 (s.withAgenda (.ovf :: .seq :: rest)) = .next ((seqTurn (overflowStep s)).withAgenda rest) := by
  have hcfg : configValid (overflowStep s).cfg = true := (overflowStep_cfg s).symm ▸ hc
  rw [runFor_succ 1 (step_withAgenda_ovf hc _), runFor_succ 0 (step_withAgenda_seq hcfg rest), runFor_zero]

theorem runFor_seq_ovf {s : State} (hc : configValid s.cfg = true) (rest : List Event) :
    runFor 2 (s.withAgenda (.seq :: .ovf :: rest)) = .next ((overflowStep (seqTurn s)).withAgenda rest) := by
  have hcfg : configValid (seqTurn s).cfg = true := (seqTurn_cfg s).symm ▸ hc
  rw [runFor_succ 1 (step_withAgenda_seq hc _), runFor_succ 0 (step_withAgenda_ovf hcfg rest), runFor_zero]

/-! ### What the two agents share -/

/-- An expiry (R170). -/
theorem ovfApply_of_last {s : State} (h : s.cnt = 1) :
    ovfApply s = { s with cnt := BitVec.ofNat 16 s.cfg.reload, tick := true } := by
  rcases ovfApply_cases s with ⟨-, ht⟩ | ⟨hne, -⟩
  · exact ht
  · exact absurd h hne

/-- A decrement (R170). -/
theorem ovfApply_of_ne_last {s : State} (h : s.cnt ≠ 1) : ovfApply s = { s with cnt := s.cnt - 1 } := by
  rcases ovfApply_cases s with ⟨hone, -⟩ | ⟨-, ht⟩
  · exact absurd hone h
  · exact ht

/-- The timer's registers and the update cycle's are apart: neither step reads what the other writes. -/
theorem ovfApply_updateCycle (s : State) : ovfApply (updateCycle s) = updateCycle (ovfApply s) := by
  by_cases hs : s.cnt = 1
  · rw [ovfApply_of_last hs, ovfApply_of_last (s := updateCycle s) hs]
    rfl
  · rw [ovfApply_of_ne_last hs, ovfApply_of_ne_last (s := updateCycle s) hs]
    rfl

/-! ### The statements -/

/-- Settles O43: in either order the state is the one of `ovfApply_updateCycle`. -/
theorem overflowCommutesWithUpdateCycle : Obligations.OverflowCommutesWithUpdateCycle := by
  intro s rest hc hm hp
  have hb : s.phase ≠ .boot := by rw [hp]; decide
  have hovf : overflowStep s = ovfApply s := overflowStep_of_run hm hb
  have hseq : seqTurn s = updateCycle s := seqTurn_of_due hm hp
  have hovfFirst : seqTurn (overflowStep s) = updateCycle (ovfApply s) := by
    rw [hovf]
    exact seqTurn_of_due (by rw [ovfApply_eq]; exact hm) (by rw [ovfApply_eq]; exact hp)
  have hseqFirst : overflowStep (seqTurn s) = updateCycle (ovfApply s) := by
    rw [hseq, overflowStep_of_run (s := updateCycle s) hm nofun, ovfApply_updateCycle]
  refine ⟨(updateCycle (ovfApply s)).withAgenda rest, ?_, ?_⟩
  · exact hovfFirst ▸ runFor_ovf_seq hc rest
  · exact hseqFirst ▸ runFor_seq_ovf hc rest

/-- Settles O44: the agent that goes second decides the tick flag. -/
theorem expiryAndObserveDoNotCommute : Obligations.ExpiryAndObserveDoNotCommute := by
  intro s rest hc hm hp ht hcnt t
  have hb : s.phase ≠ .boot := by rw [hp]; decide
  have hovfFirst : (seqTurn (overflowStep s)).withAgenda rest = { t with tick := false } := by
    rw [overflowStep_of_run hm hb, ovfApply_of_last hcnt, seqTurn_of_pending (by exact hm) (by exact hp) rfl]
    rfl
  have hseqFirst : (overflowStep (seqTurn s)).withAgenda rest = { t with tick := true } := by
    rw [seqTurn_of_pending hm hp ht, overflowStep_of_run (s := observeAndClear s) hm nofun,
      ovfApply_of_last (s := observeAndClear s) hcnt]
    rfl
  exact ⟨hovfFirst ▸ runFor_ovf_seq hc rest, hseqFirst ▸ runFor_seq_ovf hc rest⟩

/-! ### Runs that meet the hypotheses -/

/-- O43 where the overflow step is an expiry: either order leaves a tick pending after the cycle. -/
theorem witness_expiry_beside_update_cycle :
    ∃ t, runFor 2 { State.reset with phase := .updating, cnt := 1, agenda := [.ovf, .seq] } = .next t ∧
      runFor 2 { State.reset with phase := .updating, cnt := 1, agenda := [.seq, .ovf] } = .next t ∧
      t.tick = true ∧ t.phase = .idle := by
  obtain ⟨t, hovf, hseq⟩ := overflowCommutesWithUpdateCycle { State.reset with phase := .updating, cnt := 1 } []
    configValid_default rfl rfl
  refine ⟨t, hovf, hseq, ?_⟩
  injection hovf with ht
  exact ht ▸ ⟨rfl, rfl⟩

/-- O44 with the default RELOAD of 16. -/
theorem witness_expiry_beside_observe :
    runFor 2 { State.reset with phase := .idle, tick := true, cnt := 1, agenda := [.ovf, .seq] } =
      .next { State.reset with phase := .updating, tick := false, cnt := 16, agenda := [] } ∧
    runFor 2 { State.reset with phase := .idle, tick := true, cnt := 1, agenda := [.seq, .ovf] } =
      .next { State.reset with phase := .updating, tick := true, cnt := 16, agenda := [] } :=
  expiryAndObserveDoNotCommute { State.reset with phase := .idle, tick := true, cnt := 1 } [] configValid_default rfl rfl rfl rfl

end Sys2Proof.Machine
end

section
/-! SUPPORT. Reset and phase BOOT (`70_reset_and_hazards.md` R250, R251): the whole next state of a reset and of a power cycle, and the
statements O28 and O29. -/

namespace Sys2Proof.Machine

/-! ### A reset of either kind -/

/-- Power lost and regained is a reset of everything but the store. -/
theorem powerCycle_eq (test : Bool) (torn : BitVec 4) (s : State) :
    powerCycle test torn s = { resetBlock test s with store := (powerCycle test torn s).store } := by
  unfold powerCycle
  split_ifs
  · rw [State.seedWriteSome_eq]
    rfl
  · rfl

/-- The step of either reset event. Only a power loss in phase BOOT, which cuts the boot write, reaches the store (R232, R250). -/
theorem step_of_reset_event {s : State} {e : Event} {rest : List Event} {test : Bool} (hc : configValid s.cfg = true)
    (he : e = .reset test ∨ ∃ torn, e = .powerCycle test torn) (ha : s.agenda = e :: rest) :
    ∃ st, step s = .next { resetBlock test (s.withAgenda rest) with store := st } ∧
      (e = .reset test ∨ s.phase ≠ .boot → st = s.store) := by
  rcases he with rfl | ⟨torn, rfl⟩
  · exact ⟨s.store, step_of_cons hc ha, fun _ => rfl⟩
  · refine ⟨(powerCycle test torn (s.withAgenda rest)).store, ?_, fun hkeep => ?_⟩
    · rw [← powerCycle_eq]
      exact step_of_cons hc ha
    · have hb : s.phase ≠ .boot := hkeep.resolve_left nofun
      exact powerCycle_store (s := s.withAgenda rest) hb test torn

/-- R30: the strap's two values. -/
theorem strapMode_eq_test_iff (test : Bool) : strapMode test = .test ↔ test = true := by
  cases test <;> decide

/-- In phase BOOT an overflow event is lost (R251). -/
theorem overflowStep_of_boot {s : State} (hb : s.phase = .boot) : overflowStep s = s := if_neg fun h => h.2 hb

/-! ### The statements -/

/-- Settles O28: both reset events give the registers of `resetBlock`, and neither reaches the port. -/
theorem resetSetsEveryRegister : Obligations.ResetSetsEveryRegister := by
  intro s e rest test hc he ha
  obtain ⟨st, hstep, hstore⟩ := step_of_reset_event hc he ha
  exact ⟨_, hstep, rfl, rfl, rfl, reload_toNat hc, rfl, rfl, strapMode_eq_test_iff test, rfl, rfl, rfl, rfl, rfl,
    fun hkeep => State.storeByte_of_store_eq (hstore hkeep), rfl, rfl, rfl⟩

/-- Settles O29: SEQ's turn and a waiting access find the same boot step to run. -/
theorem bootComesBeforeEverythingElse : Obligations.BootComesBeforeEverythingElse := by
  intro s hc hb
  refine ⟨fun rest ha => ?_, fun e rest ha he => ?_⟩
  · rw [step_of_ovf hc ha, overflowStep_of_boot hb]
    rfl
  · have hturn : step (s.withAgenda (.seq :: s.agenda)) = .next ((bootStep s).withAgenda s.agenda) := by
      rw [step_of_boot (s := s.withAgenda (.seq :: s.agenda)) hc hb (.inl rfl), bootStep_withAgenda, State.withAgenda_withAgenda]
    have hwait : step s = .next (((bootStep s).withAgenda s.agenda).withAgenda s.agenda) := by
      rw [State.withAgenda_withAgenda]
      exact step_of_boot hc hb (.inr ⟨rfl, by simpa [ha] using he⟩)
    exact ⟨_, hturn, hwait, rfl, bootStep_resp s, rfl, bootSeed_ne_zero s⟩

/-! ### Runs that meet the hypotheses -/

/-- O28 at a power loss that cuts the boot write, with the strap at 1: the port's history stays. -/
theorem witness_power_loss_in_boot_resets :
    ∃ t, step { State.reset with arg := 7, err := true, cause := 2, port := [3], agenda := [.powerCycle true 0b0101] } = .next t ∧
      t.arg = 0 ∧ t.err = false ∧ t.mode = .test ∧ t.port = [3] := by
  obtain ⟨t, hstep, -, -, -, -, -, -, hmode, herr, -, harg, -, -, -, hport, -, -⟩ := resetSetsEveryRegister
    { State.reset with arg := 7, err := true, cause := 2, port := [3], agenda := [.powerCycle true 0b0101] }
    (.powerCycle true 0b0101) [] true configValid_default (.inr ⟨_, rfl⟩) rfl
  exact ⟨t, hstep, harg, herr, hmode.2 rfl, hport⟩

/-- O29 at a write of ARG in phase BOOT: the boot step runs, and ARG is still to be written. -/
theorem witness_arg_write_waits_for_boot :
    ∃ t, step { State.reset with agenda := [.write .b4 4 7] } = .next t ∧ t.phase = .idle ∧ t.lfsr ≠ 0 ∧ t.arg = 0 ∧
      t.agenda = [.write .b4 4 7] := by
  obtain ⟨-, hwaits⟩ := bootComesBeforeEverythingElse { State.reset with agenda := [.write .b4 4 7] } configValid_default rfl
  obtain ⟨u, -, hstep, hphase, -, -, hlfsr⟩ := hwaits (.write .b4 4 7) [] rfl rfl
  have harg : u.arg = 0 := by
    injection hstep with ht
    exact (congrArg State.arg ht).symm
  exact ⟨_, hstep, hphase, hlfsr, harg, rfl⟩

end Sys2Proof.Machine
end

section
/-! SUPPORT. From a pending tick to its update, with overflow events and bus accesses around SEQ's turns (`70_reset_and_hazards.md` R262),
and the statement O42. -/

namespace Sys2Proof.Machine

/-! ### A run of turns and passive events, with more to come after it -/

/-- Such a run answers, folds its events over the pipeline, and leaves the rest of the agenda. -/
theorem State.Running.runFor_append {s : State} {es rest : List Event} (h : s.Running) (ha : s.agenda = es ++ rest)
    (hes : ∀ e ∈ es, e = .seq ∨ e.passive = true) :
    ∃ t, runFor es.length s = .next t ∧ t.agenda = rest ∧ t.pipeline = es.foldl pipelineAfter s.pipeline := by
  induction es generalizing s with
  | nil => exact ⟨s, rfl, ha, rfl⟩
  | cons e es ih =>
    obtain ⟨he, htail⟩ := List.forall_mem_cons.1 hes
    obtain ⟨u, hstep, hurest, hu, hk⟩ := h.step_pipeline ha he
    obtain ⟨t, hrun, hrest, ht⟩ := ih hu hurest htail
    exact ⟨t, (runFor_succ es.length hstep).trans hrun, hrest, by rw [ht, hk, List.foldl_cons]⟩

/-! ### Passive events reach the counter alone, and set the tick flag or keep it -/

theorem overflowStep_eq_with (s : State) : ∃ c b, overflowStep s = { s with cnt := c, tick := s.tick || b } := by
  rcases overflowStep_cases s with ⟨-, -, h⟩ | ⟨-, h⟩ <;> rw [h]
  · rcases ovfApply_cases s with ⟨-, h⟩ | ⟨-, h⟩ <;> rw [h]
    · exact ⟨_, true, by rw [Bool.or_true]⟩
    · exact ⟨_, false, by rw [Bool.or_false]⟩
  · exact ⟨s.cnt, false, by rw [Bool.or_false]⟩

theorem pipelineAfter_of_passive {e : Event} (he : e.passive = true) (p : State) :
    ∃ c b, pipelineAfter p e = { p with cnt := c, tick := p.tick || b } := by
  rcases ovf_or_access_of_passive he with rfl | he
  · exact overflowStep_eq_with p
  · exact ⟨p.cnt, false, by rw [pipelineAfter_of_isAccess he, Bool.or_false]⟩

theorem foldl_pipelineAfter_passive {es : List Event} (hes : ∀ e ∈ es, e.passive = true) (p : State) :
    ∃ c b, es.foldl pipelineAfter p = { p with cnt := c, tick := p.tick || b } := by
  induction es generalizing p with
  | nil => exact ⟨p.cnt, false, by rw [Bool.or_false]; rfl⟩
  | cons e es ih =>
    obtain ⟨he, htail⟩ := List.forall_mem_cons.1 hes
    obtain ⟨c, b, hhead⟩ := pipelineAfter_of_passive he p
    obtain ⟨c', b', hrest⟩ := ih htail (pipelineAfter p e)
    exact ⟨c', b || b', by rw [List.foldl_cons, hrest, hhead, Bool.or_assoc]⟩

/-! ### SEQ's two turns -/

/-- Two turns of SEQ, with other events before and between them. -/
def twoTurns (before between : List Event) : List Event := before ++ .seq :: (between ++ [.seq])

theorem length_twoTurns (before between : List Event) :
    (twoTurns before between).length = before.length + between.length + 2 := by
  simp only [twoTurns, List.length_append, List.length_cons, List.length_nil]
  omega

theorem twoTurns_append (before between rest : List Event) :
    twoTurns before between ++ rest = before ++ .seq :: (between ++ .seq :: rest) := by
  simp [twoTurns]

theorem seq_or_passive_of_mem_twoTurns {before between : List Event} (hbefore : ∀ e ∈ before, e.passive = true)
    (hbetween : ∀ e ∈ between, e.passive = true) : ∀ e ∈ twoTurns before between, e = .seq ∨ e.passive = true := by
  simp only [twoTurns, List.mem_append, List.mem_cons, List.not_mem_nil, or_false]
  rintro e (he | rfl | he | rfl)
  · exact .inr (hbefore e he)
  · exact .inl rfl
  · exact .inr (hbetween e he)
  · exact .inl rfl

/-- A pending tick and two turns with passive events before and between them: one observe-and-clear, and one update cycle. -/
theorem foldl_pipelineAfter_twoTurns {before between : List Event} {p : State} (hm : p.mode = .run) (hp : p.phase = .idle)
    (ht : p.tick = true) (hbefore : ∀ e ∈ before, e.passive = true) (hbetween : ∀ e ∈ between, e.passive = true) :
    ∃ c b, (twoTurns before between).foldl pipelineAfter p =
      updateCycle { p with cnt := c, tick := b, phase := .updating } := by
  obtain ⟨c, b, hfirst⟩ := foldl_pipelineAfter_passive hbefore p
  have hobserve : pipelineAfter (before.foldl pipelineAfter p) .seq = { p with cnt := c, tick := false, phase := .updating } := by
    rw [hfirst]
    exact seqTurn_of_pending (s := { p with cnt := c, tick := p.tick || b }) hm hp (by simp [ht])
  obtain ⟨c', b', hsecond⟩ := foldl_pipelineAfter_passive hbetween { p with cnt := c, tick := false, phase := .updating }
  refine ⟨c', b', ?_⟩
  rw [twoTurns, List.foldl_append, List.foldl_cons, hobserve, List.foldl_append, hsecond, Bool.false_or]
  exact seqTurn_of_due (s := { p with cnt := c', tick := b', phase := .updating }) hm rfl

/-! ### The statement -/

/-- Settles O42: the run ends as an update cycle does, IDLE and with one more value on the port. -/
theorem pendingTickLeadsToOneUpdate : Obligations.PendingTickLeadsToOneUpdate := by
  intro s before between rest hc hm hp ht hbefore hbetween ha
  have hs : s.Running := ⟨hc, hm, by rw [hp]; decide⟩
  obtain ⟨t, hrun, hrest, hk⟩ := hs.runFor_append (ha.trans (twoTurns_append before between rest).symm)
    (seq_or_passive_of_mem_twoTurns hbefore hbetween)
  obtain ⟨c, b, hupdate⟩ := foldl_pipelineAfter_twoTurns (p := s.pipeline) hm hp ht hbefore hbetween
  replace hk := hk.trans hupdate
  have hphase : t.phase = .idle := (congrArg State.phase hk :)
  have hduty : t.duty = (updateApply { s.pipeline with cnt := c, tick := b, phase := .updating }).2 := (congrArg State.duty hk :)
  have hport : t.port = (updateApply { s.pipeline with cnt := c, tick := b, phase := .updating }).2 :: s.port :=
    (congrArg State.port hk :)
  exact ⟨t, length_twoTurns before between ▸ hrun, hrest, hphase, _, hport, hduty⟩

/-- O42 with an expiry between the two turns: its tick is for the next update, and this one is still one write. -/
theorem witness_one_update_beside_expiry :
    ∃ t, runFor 4 { State.reset with phase := .idle, tick := true, cnt := 1,
                                     agenda := [.read .b4 0x0C, .seq, .ovf, .seq] } = .next t ∧
      t.phase = .idle ∧ t.port = [t.duty] := by
  obtain ⟨t, hrun, -, hphase, d, hport, rfl⟩ := pendingTickLeadsToOneUpdate
    { State.reset with phase := .idle, tick := true, cnt := 1, agenda := [.read .b4 0x0C, .seq, .ovf, .seq] }
    [.read .b4 0x0C] [.ovf] [] configValid_default rfl rfl rfl (by decide) (by decide) rfl
  exact ⟨t, hrun, hphase, hport⟩

end Sys2Proof.Machine
end

section
/-! SUPPORT. Who writes each register of a running machine (`70_reset_and_hazards.md` R256): SEQ, TMR and HOST, each by its own step, and
the statement O51. -/

namespace Sys2Proof.Machine

/-- In RUN mode a HOST access of either kind reaches the store at most, and by a window write ARG, ERR and CAUSE. -/
theorem step_of_host_access {s t : State} {e : Event} {rest : List Event} (hm : s.mode = .run) (hb : s.phase ≠ .boot)
    (ha : s.agenda = e :: rest) (he : e.waitsForBoot = true) (h : step s = .next t) :
    t.pipeline = { s.pipeline with store := t.store } ∧
    ((∀ w a v, e ≠ .write w a v) → t.arg = s.arg ∧ t.err = s.err ∧ t.cause = s.cause) := by
  obtain ⟨hc, -⟩ := step_cases h
  have haccess : eventStep e rest s = .next t := (step_of_cons hc ha).symm.trans h
  cases e with
  | read w a =>
    obtain ⟨r, rfl⟩ := hostRead_eq_respond ((State.stalled_after_boot hb rest _).symm.trans haccess)
    exact ⟨rfl, fun _ => ⟨rfl, rfl, rfl⟩⟩
  | write w a v =>
    have hwrite : hostWrite w a v (s.withAgenda rest) = .next t := (State.stalled_after_boot hb rest _).symm.trans haccess
    obtain ⟨hk, -⟩ := hostWrite_keeps_pipeline (s := s.withAgenda rest) hm hwrite
    have hstore : t.store = s.store := hostWrite_store (s := s.withAgenda rest) hwrite
    exact ⟨by rw [hk, hstore]; rfl, fun hno => absurd rfl (hno w a v)⟩
  | storeRead a =>
    rcases hostStoreRead_cases ((State.stalled_after_boot hb rest _).symm.trans haccess) with ⟨-, ht⟩ | ⟨-, ht⟩
    · injection ht with ht
      exact ht ▸ ⟨rfl, fun _ => ⟨rfl, rfl, rfl⟩⟩
    · nomatch ht
  | storeWrite a v =>
    rcases hostStoreWrite_cases ((State.stalled_after_boot hb rest _).symm.trans haccess) with ⟨-, ht⟩ | ⟨-, ht⟩
    · injection ht with ht
      exact ht ▸ ⟨rfl, fun _ => ⟨rfl, rfl, rfl⟩⟩
    · nomatch ht
  | seq | ovf | reset | powerCycle => nomatch he

/-- Settles O51: the step is SEQ's, TMR's or HOST's, and each agent's own equation says which registers it writes. -/
theorem runModeRegistersHaveOneWriter : Obligations.RunModeRegistersHaveOneWriter := by
  intro s t hstep hm hb hno
  rcases step_scheduler hstep with ⟨hseq, es, rfl⟩ | ⟨e, rest, ha, hevent⟩
  · have hnotSeq {P : Prop} : s.isSeqTurn = false → P := fun h => nomatch hseq.symm.trans h
    rcases seqTurn_cases s with ⟨hp, -⟩ | ⟨-, -, -, h⟩ | ⟨hp, -, h⟩ | ⟨-, -, h⟩
    · exact absurd hp hb
    · rw [h]
      exact ⟨rfl, rfl, fun _ => ⟨rfl, rfl, rfl, rfl, rfl⟩, hnotSeq, fun _ => ⟨rfl, fun _ => rfl⟩, fun _ => ⟨rfl, rfl, rfl⟩⟩
    · have hup : s.isUpdate = true := by rw [isUpdate_of_seqTurn hseq, hm, hp]; rfl
      have hnotOther {P : Prop} : s.isUpdate = false → P := fun h => nomatch hup.symm.trans h
      rw [h]
      exact ⟨rfl, rfl, hnotOther, hnotSeq, fun _ => ⟨rfl, id⟩, fun _ => ⟨rfl, rfl, rfl⟩⟩
    · rw [h]
      exact ⟨rfl, rfl, fun _ => ⟨rfl, rfl, rfl, rfl, rfl⟩, hnotSeq, fun _ => ⟨rfl, id⟩, fun _ => ⟨rfl, rfl, rfl⟩⟩
  · rcases hevent with ⟨rfl, rfl⟩ | ⟨hreset, -⟩ | ⟨-, hboot, -⟩ | ⟨hacc, -⟩
    · obtain ⟨c, b, h⟩ := overflowStep_eq_with s
      rw [h]
      exact ⟨rfl, rfl, fun _ => ⟨rfl, rfl, rfl, rfl, rfl⟩, fun _ => ⟨rfl, fun htick => by simp [htick]⟩,
        fun hnot => absurd (congrArg List.head? ha) hnot, fun _ => ⟨rfl, rfl, rfl⟩⟩
    · exact nomatch hreset.symm.trans ((noReset_of_cons ha).1 hno)
    · exact absurd hboot hb
    · obtain ⟨hk, hwrite⟩ := step_of_host_access hm hb ha hacc hstep
      have htick : t.tick = s.tick := (congrArg State.tick hk :)
      exact ⟨(congrArg State.res hk :), (congrArg State.seedw hk :),
        fun _ => ⟨(congrArg State.lfsr hk :), (congrArg State.z1 hk :), (congrArg State.z2 hk :), (congrArg State.duty hk :),
          (congrArg State.port hk :)⟩,
        fun _ => ⟨(congrArg State.phase hk :), htick.trans⟩,
        fun _ => ⟨(congrArg State.cnt hk :), htick.trans⟩,
        fun hnot => hwrite fun w a v he => hnot w a v (by rw [ha, he]; rfl)⟩

/-- O51 at HOST's write of ARG in the middle of an update, with a tick pending: SEQ's and TMR's registers stay. -/
theorem witness_arg_write_in_run_mode :
    ∃ t, step { State.reset with phase := .updating, tick := true, agenda := [.write .b4 4 7] } = .next t ∧ t.arg = 7 ∧
      t.phase = .updating ∧ t.tick = true ∧ t.cnt = 16 := by
  obtain ⟨-, -, -, hseq, htmr, -⟩ := runModeRegistersHaveOneWriter
    { State.reset with phase := .updating, tick := true, agenda := [.write .b4 4 7] } _ rfl rfl nofun (by decide)
  obtain ⟨hphase, htick⟩ := hseq rfl
  exact ⟨_, rfl, rfl, hphase, htick rfl, (htmr nofun).1⟩

end Sys2Proof.Machine
end
